-- ==== Sys2Proof/Word.lean ====
section
/-! DEFINITION. The words of DEC6502 (R8, R10, R12): bytes, 16-bit target addresses, and text. -/

namespace Sys2Proof

/-- A byte, an opcode or an operand byte (R8). -/
abbrev Byte := BitVec 8

/-- A 16-bit unsigned value: a target address or an operand value (R8). -/
abbrev Word := BitVec 16

/-- Text, as its list of characters (R12). -/
abbrev Text := List Char

end Sys2Proof
end

