-- ==== Sys2Proof/Syntax.lean ====
section
/-! DEFINITION. The instruction set DEC6502 decodes (rules R2, R28, R29, R69, R70): mnemonics, addressing modes,
opcode entries, and `Instr`, one constructor for each of the 151 defined opcodes and one for the raw-data
pseudo-instruction that the 105 undefined bytes decode to (R72, R76). Operands are the instruction's own operand
bytes, named as the family files name them: `ii` an immediate, `zz` a zero-page byte, `rr` a displacement, `lo hi` an
address in buffer order. -/

namespace Sys2Proof

/-- The 56 mnemonics, in the alphabetical order that numbers them (R37). -/
inductive Mnemonic where
  | adc | and | asl | bcc | bcs | beq | bit | bmi | bne | bpl | brk | bvc | bvs | clc
  | cld | cli | clv | cmp | cpx | cpy | dec | dex | dey | eor | inc | inx | iny | jmp
  | jsr | lda | ldx | ldy | lsr | nop | ora | pha | php | pla | plp | rol | ror | rti
  | rts | sbc | sec | sed | sei | sta | stx | sty | tax | tay | tsx | txa | txs | tya
deriving DecidableEq, Repr

/-- The closed enum of addressing modes, in the order of R29. -/
inductive Mode where
  | implied | accumulator | immediate | zeroPage | zeroPageX | zeroPageY | absolute
  | absoluteX | absoluteY | indirect | indirectX | indirectY | relative
deriving DecidableEq, Repr

/-- An OpcodeEntry (R28): what OPROM holds for a defined opcode. -/
structure OpcodeEntry where
  mnemonic : Mnemonic
  mode : Mode
  length : Nat
deriving DecidableEq, Repr

/-- The instructions. Each constructor but the last is one row of R70, in the order of the rules R201 to R392 that give
their decode; `byte b` is the raw-data pseudo-instruction of an undefined byte `b` (R72, R76, R105). -/
inductive Instr where
  -- 42_load_store_transfer.md
  | ldaImmediate (ii : Byte)
  | ldaZeroPage (zz : Byte)
  | ldaZeroPageX (zz : Byte)
  | ldaAbsolute (lo hi : Byte)
  | ldaAbsoluteX (lo hi : Byte)
  | ldaAbsoluteY (lo hi : Byte)
  | ldaIndirectX (zz : Byte)
  | ldaIndirectY (zz : Byte)
  | ldxImmediate (ii : Byte)
  | ldxZeroPage (zz : Byte)
  | ldxZeroPageY (zz : Byte)
  | ldxAbsolute (lo hi : Byte)
  | ldxAbsoluteY (lo hi : Byte)
  | ldyImmediate (ii : Byte)
  | ldyZeroPage (zz : Byte)
  | ldyZeroPageX (zz : Byte)
  | ldyAbsolute (lo hi : Byte)
  | ldyAbsoluteX (lo hi : Byte)
  | staZeroPage (zz : Byte)
  | staZeroPageX (zz : Byte)
  | staAbsolute (lo hi : Byte)
  | staAbsoluteX (lo hi : Byte)
  | staAbsoluteY (lo hi : Byte)
  | staIndirectX (zz : Byte)
  | staIndirectY (zz : Byte)
  | stxZeroPage (zz : Byte)
  | stxZeroPageY (zz : Byte)
  | stxAbsolute (lo hi : Byte)
  | styZeroPage (zz : Byte)
  | styZeroPageX (zz : Byte)
  | styAbsolute (lo hi : Byte)
  | tax
  | tay
  | txa
  | tya
  | tsx
  | txs
  -- 43_arith_logic.md
  | adcImmediate (ii : Byte)
  | adcZeroPage (zz : Byte)
  | adcZeroPageX (zz : Byte)
  | adcAbsolute (lo hi : Byte)
  | adcAbsoluteX (lo hi : Byte)
  | adcAbsoluteY (lo hi : Byte)
  | adcIndirectX (zz : Byte)
  | adcIndirectY (zz : Byte)
  | sbcImmediate (ii : Byte)
  | sbcZeroPage (zz : Byte)
  | sbcZeroPageX (zz : Byte)
  | sbcAbsolute (lo hi : Byte)
  | sbcAbsoluteX (lo hi : Byte)
  | sbcAbsoluteY (lo hi : Byte)
  | sbcIndirectX (zz : Byte)
  | sbcIndirectY (zz : Byte)
  | andImmediate (ii : Byte)
  | andZeroPage (zz : Byte)
  | andZeroPageX (zz : Byte)
  | andAbsolute (lo hi : Byte)
  | andAbsoluteX (lo hi : Byte)
  | andAbsoluteY (lo hi : Byte)
  | andIndirectX (zz : Byte)
  | andIndirectY (zz : Byte)
  | oraImmediate (ii : Byte)
  | oraZeroPage (zz : Byte)
  | oraZeroPageX (zz : Byte)
  | oraAbsolute (lo hi : Byte)
  | oraAbsoluteX (lo hi : Byte)
  | oraAbsoluteY (lo hi : Byte)
  | oraIndirectX (zz : Byte)
  | oraIndirectY (zz : Byte)
  | eorImmediate (ii : Byte)
  | eorZeroPage (zz : Byte)
  | eorZeroPageX (zz : Byte)
  | eorAbsolute (lo hi : Byte)
  | eorAbsoluteX (lo hi : Byte)
  | eorAbsoluteY (lo hi : Byte)
  | eorIndirectX (zz : Byte)
  | eorIndirectY (zz : Byte)
  | cmpImmediate (ii : Byte)
  | cmpZeroPage (zz : Byte)
  | cmpZeroPageX (zz : Byte)
  | cmpAbsolute (lo hi : Byte)
  | cmpAbsoluteX (lo hi : Byte)
  | cmpAbsoluteY (lo hi : Byte)
  | cmpIndirectX (zz : Byte)
  | cmpIndirectY (zz : Byte)
  | cpxImmediate (ii : Byte)
  | cpxZeroPage (zz : Byte)
  | cpxAbsolute (lo hi : Byte)
  | cpyImmediate (ii : Byte)
  | cpyZeroPage (zz : Byte)
  | cpyAbsolute (lo hi : Byte)
  | bitZeroPage (zz : Byte)
  | bitAbsolute (lo hi : Byte)
  -- 44_shift_incdec.md
  | aslAccumulator
  | aslZeroPage (zz : Byte)
  | aslZeroPageX (zz : Byte)
  | aslAbsolute (lo hi : Byte)
  | aslAbsoluteX (lo hi : Byte)
  | lsrAccumulator
  | lsrZeroPage (zz : Byte)
  | lsrZeroPageX (zz : Byte)
  | lsrAbsolute (lo hi : Byte)
  | lsrAbsoluteX (lo hi : Byte)
  | rolAccumulator
  | rolZeroPage (zz : Byte)
  | rolZeroPageX (zz : Byte)
  | rolAbsolute (lo hi : Byte)
  | rolAbsoluteX (lo hi : Byte)
  | rorAccumulator
  | rorZeroPage (zz : Byte)
  | rorZeroPageX (zz : Byte)
  | rorAbsolute (lo hi : Byte)
  | rorAbsoluteX (lo hi : Byte)
  | incZeroPage (zz : Byte)
  | incZeroPageX (zz : Byte)
  | incAbsolute (lo hi : Byte)
  | incAbsoluteX (lo hi : Byte)
  | decZeroPage (zz : Byte)
  | decZeroPageX (zz : Byte)
  | decAbsolute (lo hi : Byte)
  | decAbsoluteX (lo hi : Byte)
  | inx
  | iny
  | dex
  | dey
  -- 45_control_transfer.md
  | bpl (rr : Byte)
  | bmi (rr : Byte)
  | bvc (rr : Byte)
  | bvs (rr : Byte)
  | bcc (rr : Byte)
  | bcs (rr : Byte)
  | bne (rr : Byte)
  | beq (rr : Byte)
  | jmpAbsolute (lo hi : Byte)
  | jmpIndirect (lo hi : Byte)
  | jsrAbsolute (lo hi : Byte)
  | rts
  | rti
  | brk
  -- 46_stack_flags_misc.md
  | pha
  | php
  | pla
  | plp
  | clc
  | sec
  | cli
  | sei
  | clv
  | cld
  | sed
  | nop
  -- 40_decode_unit.md R105
  | byte (b : Byte)
deriving DecidableEq, Repr

end Sys2Proof
end

