-- ==== Sys2Proof/Machine/State.lean ====
section
/-! DEFINITION. The state of DEC6502 and of the host at its boundary, as plain data, with the reasons a step can stop
and the state after reset. -/

namespace Sys2Proof.Machine

/-- The run status (R21). -/
inductive Status where
  | idle | running | done | truncated | invalidRange
deriving DecidableEq, Repr

/-- Why START refused a range (R26). -/
inductive RangeCause where
  | startPastEnd | endBeforeStart
deriving DecidableEq, Repr

/-- The cause information of the last error (R26). -/
inductive ErrInfo where
  | none
  | truncated (off : Nat) (opcode : Byte) (need avail : Nat)
  | invalidRange (cause : RangeCause)
deriving DecidableEq, Repr

/-- What a record stands for (R27): an instruction or a raw-data byte. -/
inductive Kind where
  | instr | data
deriving DecidableEq, Repr

/-- A DecodedInstruction record (R27). -/
structure Record where
  kind : Kind
  address : Word
  rawBytes : List Byte
  mnemonic : Text
  mode : Mode
  operandValue : Option Word
  renderedText : Text
deriving DecidableEq, Repr

/-- A byte memory (R41): `size` bytes at the offsets `0` to `size - 1`. `cells` lists the bytes that differ from
`Memory.unlisted`, by rising offset. -/
structure Memory where
  size : Nat
  cells : List Host.Cell
deriving DecidableEq, Repr

/-- What the host can do to the block (R20, R50, R100, R102, R510, R550, R553). -/
inductive HostOp where
  /-- Place a header-stripped image in the buffer (R553). -/
  | load (bytes : List Byte)
  /-- Issue START (R100). `rc = none` is a START that gives no `requireComplete`. -/
  | start (s e base : Nat) (rc : Option Bool)
  /-- Issue STEP (R106). -/
  | step
  /-- Reset the block (R550). -/
  | reset
deriving DecidableEq, Repr

/-- The block's registers by name (R20). -/
inductive Reg where
  | status | cur | endOff | base | ctrl | errInfo
deriving DecidableEq, Repr

/-- What a register reads as (R20). -/
inductive RegValue where
  | code (c : BitVec 3)
  | offset (n : Nat)
  | address (a : Word)
  | bit (b : BitVec 1)
  | info (e : ErrInfo)
deriving DecidableEq, Repr

/-- The machine: the block's registers (R20), and the host's side of the boundary. -/
structure State where
  /-- `STATUS` (R21). -/
  status : Status
  /-- `CUR`, the cursor (R22). -/
  cur : Nat
  /-- `END` (R23). -/
  endOff : Nat
  /-- `BASE` (R24). -/
  base : Word
  /-- `CTRL`, with `RC` at bit 0 (R25). -/
  ctrl : BitVec 1
  /-- Whether `CUR`, `END`, `BASE` and `CTRL` hold a value: after reset they hold none until a START writes all four
  (R40, log 10). The model's own field. -/
  written : Bool
  /-- `ERRINFO` (R26). -/
  errInfo : ErrInfo
  /-- The host's buffer `BUF`, of `N = buf.size` bytes (R7, R35, R41). -/
  buf : Memory
  /-- The host's output stream, oldest record first (R27, R115). -/
  out : List Record
  /-- What the host does next, first operation first. When it is empty the host issues STEP (log 3). The model's own
  field. -/
  inbox : List HostOp
deriving DecidableEq, Repr

/-- Why the machine stops. -/
inductive Fault where
  /-- STEP while STATUS is not RUNNING: the block has no step and waits for START (R102, log 8). Raised by `stepRun`.
  Safe: the spec gives no transition there. -/
  | stepNotEnabled
  /-- A read of the buffer at or past `N` (R47, R51, log 9). Raised by `stepRun`, only in states that no run reaches.
  Safe. -/
  | readPastBuffer
deriving DecidableEq, Repr

/-- What the model gives no run for. -/
inductive Refusal where
  /-- An instruction with no meaning in the model yet: raised by an arm of `exec`. Safe. -/
  | notModelled (mnemonic : String)
  /-- The host changes the buffer during a run: outside the spec, with no run defined (R50, log 7). Raised by
  `hostLoad`. Safe. -/
  | bufferChangedDuringRun
deriving DecidableEq, Repr

/-- The state after reset (R40, R550): IDLE, no error, no register of a run holding a value, nothing loaded or emitted.
DESIGN CHOICE (log 1): the four registers to which the spec gives no value are 0, and read so; `written = false` says that
the spec gives them none. -/
def State.reset : State :=
  { status := .idle, cur := 0, endOff := 0, base := 0, ctrl := 0, written := false, errInfo := .none,
    buf := ⟨0, []⟩, out := [], inbox := [] }

end Sys2Proof.Machine
end

