-- ==== Sys2Proof/Machine/Flags.lean ====
section
/-! DEFINITION. The codes of the block's status and control registers. DEC6502 has no flags and no condition codes, and
no decode result depends on one (R33). -/

namespace Sys2Proof.Machine

/-- The code of a status (R21). -/
def Status.code : Status → BitVec 3
  | .idle => 0
  | .running => 1
  | .done => 2
  | .truncated => 3
  | .invalidRange => 4

/-- The code of a range cause (R26). -/
def RangeCause.code : RangeCause → Nat
  | .startPastEnd => 1
  | .endBeforeStart => 2

/-- `CTRL.RC`, bit 0 of CTRL (R25). -/
def State.rc (s : State) : Bool := s.ctrl.getLsbD 0

/-- What START writes to CTRL (R100). -/
def ctrlOf (rc : Bool) : BitVec 1 := if rc then 1 else 0

end Sys2Proof.Machine
end

