-- ==== Sys2Proof/Machine/Memory.lean ====
section
/-! DEFINITION. The byte memory: its canonical form, reads, and the host's writes. The block itself only reads (R48). -/

namespace Sys2Proof.Machine

/-- What an offset below `size` reads as when no cell lists it. DESIGN CHOICE (log 2): the host supplies every byte of the
buffer, and a byte equal to this one is not listed. -/
def Memory.unlisted : Byte := 0x00

/-- The cells are listed by strictly rising offset, all in `lo` to `hi - 1`, none equal to `unlisted`. -/
def cellsWf (lo hi : Nat) : List Host.Cell → Bool
  | [] => true
  | (a, b) :: r => decide (lo ≤ a) && decide (a < hi) && decide (b ≠ Memory.unlisted) && cellsWf (a + 1) hi r

/-- The canonical form: equal memories are equal data. -/
def Memory.wf (m : Memory) : Bool := cellsWf 0 m.size m.cells

/-- The byte the cells give at offset `x`. -/
def cellsRead (x : Nat) : List Host.Cell → Byte
  | [] => Memory.unlisted
  | (a, b) :: r => if a = x then b else cellsRead x r

/-- The cells with `v` at offset `x`. -/
def cellsWrite (x : Nat) (v : Byte) : List Host.Cell → List Host.Cell
  | [] => if v = Memory.unlisted then [] else [(x, v)]
  | (a, b) :: r =>
    if x < a then if v = Memory.unlisted then (a, b) :: r else (x, v) :: (a, b) :: r
    else if a = x then if v = Memory.unlisted then r else (x, v) :: r
    else (a, b) :: cellsWrite x v r

/-- The cells of the bytes `bs` laid out from offset `x` on. -/
def cellsOf (x : Nat) : List Byte → List Host.Cell
  | [] => []
  | b :: bs => if b = Memory.unlisted then cellsOf (x + 1) bs else (x, b) :: cellsOf (x + 1) bs

/-- `MemRead(off, 1)` (R11): the byte at `off`, or `none` at or past `N`, where nothing is ever read (R47, R51). -/
def Memory.read (m : Memory) (off : Nat) : Option Byte :=
  if off < m.size then some (cellsRead off m.cells) else none

/-- The bytes at `off` on, `n` of them or as many as the buffer holds (R45). -/
def Memory.readBytes (m : Memory) (off : Nat) : Nat → List Byte
  | 0 => []
  | n + 1 =>
    match m.read off with
    | some b => b :: m.readBytes (off + 1) n
    | none => []

/-- A buffer of exactly the bytes `bs` (R7, R553). -/
def Memory.load (bs : List Byte) : Memory := ⟨bs.length, cellsOf 0 bs⟩

/-- The memory with `v` at offset `off`. An offset at or past `size` does not exist and nothing is written. -/
def Memory.write (m : Memory) (off : Nat) (v : Byte) : Memory :=
  if off < m.size then { m with cells := cellsWrite off v m.cells } else m

/-- The memory with the bytes `bs` from offset `off` on. -/
def Memory.writeBytes (m : Memory) (off : Nat) : List Byte → Memory
  | [] => m
  | b :: bs => (m.write off b).writeBytes (off + 1) bs

/-- The memory made at least `n` bytes long. -/
def Memory.grow (m : Memory) (n : Nat) : Memory := { m with size := max m.size n }

end Sys2Proof.Machine
end

