-- ==== Sys2Proof/Config.lean ====
section
/-! DEFINITION. What is fixed for the machine. The spec leaves no value of the block open, so there is no free value
here. `N`, `BUF`, `BASE`, `RC` and the offsets of a run (R7) are the host's inputs and stand in State; OPROM (R38) is the
constant table of Decode.lean. -/

namespace Sys2Proof.Config

/-- The conventional address base (R7, R9, R49). -/
def conventionalBase : Nat := 0x8000

/-- `requireComplete` when the host's START gives none (R7, R25, R40). -/
def defaultRequireComplete : Bool := true

/-- The bytes of the header that the caller strips before it loads the buffer (R9, R553). -/
def headerBytes : Nat := 16

end Sys2Proof.Config
end

