-- ==== Sys2Proof/Decode.lean ====
section
/-! DEFINITION. The opcode table OPROM (R36 to R38, R69, R70), the decoder from bytes to `Instr` (R60 to R63), total on
any bytes, and the encoder. The table is written as the grid of R68: one list for each high nibble. -/

namespace Sys2Proof

/-- The three formats of R61, each with the instruction it builds from the operand bytes in buffer order. -/
inductive Form where
  | f1 (i : Instr)
  | f2 (mk : Byte → Instr)
  | f3 (mk : Byte → Byte → Instr)

/-- One row of R70's table. -/
structure OpRow where
  opcode : Byte
  mnemonic : Mnemonic
  mode : Mode
  length : Nat
  form : Form

/-- The entry OPROM returns for a row (R28). -/
def OpRow.entry (r : OpRow) : OpcodeEntry := ⟨r.mnemonic, r.mode, r.length⟩

/-- R70, opcodes 0x00 to 0x0F. -/
def opRows0 : List OpRow :=
  [⟨0x00, .brk, .implied, 1, .f1 .brk⟩,
   ⟨0x01, .ora, .indirectX, 2, .f2 .oraIndirectX⟩,
   ⟨0x05, .ora, .zeroPage, 2, .f2 .oraZeroPage⟩,
   ⟨0x06, .asl, .zeroPage, 2, .f2 .aslZeroPage⟩,
   ⟨0x08, .php, .implied, 1, .f1 .php⟩,
   ⟨0x09, .ora, .immediate, 2, .f2 .oraImmediate⟩,
   ⟨0x0A, .asl, .accumulator, 1, .f1 .aslAccumulator⟩,
   ⟨0x0D, .ora, .absolute, 3, .f3 .oraAbsolute⟩,
   ⟨0x0E, .asl, .absolute, 3, .f3 .aslAbsolute⟩]

/-- R70, opcodes 0x10 to 0x1F. -/
def opRows1 : List OpRow :=
  [⟨0x10, .bpl, .relative, 2, .f2 .bpl⟩,
   ⟨0x11, .ora, .indirectY, 2, .f2 .oraIndirectY⟩,
   ⟨0x15, .ora, .zeroPageX, 2, .f2 .oraZeroPageX⟩,
   ⟨0x16, .asl, .zeroPageX, 2, .f2 .aslZeroPageX⟩,
   ⟨0x18, .clc, .implied, 1, .f1 .clc⟩,
   ⟨0x19, .ora, .absoluteY, 3, .f3 .oraAbsoluteY⟩,
   ⟨0x1D, .ora, .absoluteX, 3, .f3 .oraAbsoluteX⟩,
   ⟨0x1E, .asl, .absoluteX, 3, .f3 .aslAbsoluteX⟩]

/-- R70, opcodes 0x20 to 0x2F. -/
def opRows2 : List OpRow :=
  [⟨0x20, .jsr, .absolute, 3, .f3 .jsrAbsolute⟩,
   ⟨0x21, .and, .indirectX, 2, .f2 .andIndirectX⟩,
   ⟨0x24, .bit, .zeroPage, 2, .f2 .bitZeroPage⟩,
   ⟨0x25, .and, .zeroPage, 2, .f2 .andZeroPage⟩,
   ⟨0x26, .rol, .zeroPage, 2, .f2 .rolZeroPage⟩,
   ⟨0x28, .plp, .implied, 1, .f1 .plp⟩,
   ⟨0x29, .and, .immediate, 2, .f2 .andImmediate⟩,
   ⟨0x2A, .rol, .accumulator, 1, .f1 .rolAccumulator⟩,
   ⟨0x2C, .bit, .absolute, 3, .f3 .bitAbsolute⟩,
   ⟨0x2D, .and, .absolute, 3, .f3 .andAbsolute⟩,
   ⟨0x2E, .rol, .absolute, 3, .f3 .rolAbsolute⟩]

/-- R70, opcodes 0x30 to 0x3F. -/
def opRows3 : List OpRow :=
  [⟨0x30, .bmi, .relative, 2, .f2 .bmi⟩,
   ⟨0x31, .and, .indirectY, 2, .f2 .andIndirectY⟩,
   ⟨0x35, .and, .zeroPageX, 2, .f2 .andZeroPageX⟩,
   ⟨0x36, .rol, .zeroPageX, 2, .f2 .rolZeroPageX⟩,
   ⟨0x38, .sec, .implied, 1, .f1 .sec⟩,
   ⟨0x39, .and, .absoluteY, 3, .f3 .andAbsoluteY⟩,
   ⟨0x3D, .and, .absoluteX, 3, .f3 .andAbsoluteX⟩,
   ⟨0x3E, .rol, .absoluteX, 3, .f3 .rolAbsoluteX⟩]

/-- R70, opcodes 0x40 to 0x4F. -/
def opRows4 : List OpRow :=
  [⟨0x40, .rti, .implied, 1, .f1 .rti⟩,
   ⟨0x41, .eor, .indirectX, 2, .f2 .eorIndirectX⟩,
   ⟨0x45, .eor, .zeroPage, 2, .f2 .eorZeroPage⟩,
   ⟨0x46, .lsr, .zeroPage, 2, .f2 .lsrZeroPage⟩,
   ⟨0x48, .pha, .implied, 1, .f1 .pha⟩,
   ⟨0x49, .eor, .immediate, 2, .f2 .eorImmediate⟩,
   ⟨0x4A, .lsr, .accumulator, 1, .f1 .lsrAccumulator⟩,
   ⟨0x4C, .jmp, .absolute, 3, .f3 .jmpAbsolute⟩,
   ⟨0x4D, .eor, .absolute, 3, .f3 .eorAbsolute⟩,
   ⟨0x4E, .lsr, .absolute, 3, .f3 .lsrAbsolute⟩]

/-- R70, opcodes 0x50 to 0x5F. -/
def opRows5 : List OpRow :=
  [⟨0x50, .bvc, .relative, 2, .f2 .bvc⟩,
   ⟨0x51, .eor, .indirectY, 2, .f2 .eorIndirectY⟩,
   ⟨0x55, .eor, .zeroPageX, 2, .f2 .eorZeroPageX⟩,
   ⟨0x56, .lsr, .zeroPageX, 2, .f2 .lsrZeroPageX⟩,
   ⟨0x58, .cli, .implied, 1, .f1 .cli⟩,
   ⟨0x59, .eor, .absoluteY, 3, .f3 .eorAbsoluteY⟩,
   ⟨0x5D, .eor, .absoluteX, 3, .f3 .eorAbsoluteX⟩,
   ⟨0x5E, .lsr, .absoluteX, 3, .f3 .lsrAbsoluteX⟩]

/-- R70, opcodes 0x60 to 0x6F. -/
def opRows6 : List OpRow :=
  [⟨0x60, .rts, .implied, 1, .f1 .rts⟩,
   ⟨0x61, .adc, .indirectX, 2, .f2 .adcIndirectX⟩,
   ⟨0x65, .adc, .zeroPage, 2, .f2 .adcZeroPage⟩,
   ⟨0x66, .ror, .zeroPage, 2, .f2 .rorZeroPage⟩,
   ⟨0x68, .pla, .implied, 1, .f1 .pla⟩,
   ⟨0x69, .adc, .immediate, 2, .f2 .adcImmediate⟩,
   ⟨0x6A, .ror, .accumulator, 1, .f1 .rorAccumulator⟩,
   ⟨0x6C, .jmp, .indirect, 3, .f3 .jmpIndirect⟩,
   ⟨0x6D, .adc, .absolute, 3, .f3 .adcAbsolute⟩,
   ⟨0x6E, .ror, .absolute, 3, .f3 .rorAbsolute⟩]

/-- R70, opcodes 0x70 to 0x7F. -/
def opRows7 : List OpRow :=
  [⟨0x70, .bvs, .relative, 2, .f2 .bvs⟩,
   ⟨0x71, .adc, .indirectY, 2, .f2 .adcIndirectY⟩,
   ⟨0x75, .adc, .zeroPageX, 2, .f2 .adcZeroPageX⟩,
   ⟨0x76, .ror, .zeroPageX, 2, .f2 .rorZeroPageX⟩,
   ⟨0x78, .sei, .implied, 1, .f1 .sei⟩,
   ⟨0x79, .adc, .absoluteY, 3, .f3 .adcAbsoluteY⟩,
   ⟨0x7D, .adc, .absoluteX, 3, .f3 .adcAbsoluteX⟩,
   ⟨0x7E, .ror, .absoluteX, 3, .f3 .rorAbsoluteX⟩]

/-- R70, opcodes 0x80 to 0x8F. -/
def opRows8 : List OpRow :=
  [⟨0x81, .sta, .indirectX, 2, .f2 .staIndirectX⟩,
   ⟨0x84, .sty, .zeroPage, 2, .f2 .styZeroPage⟩,
   ⟨0x85, .sta, .zeroPage, 2, .f2 .staZeroPage⟩,
   ⟨0x86, .stx, .zeroPage, 2, .f2 .stxZeroPage⟩,
   ⟨0x88, .dey, .implied, 1, .f1 .dey⟩,
   ⟨0x8A, .txa, .implied, 1, .f1 .txa⟩,
   ⟨0x8C, .sty, .absolute, 3, .f3 .styAbsolute⟩,
   ⟨0x8D, .sta, .absolute, 3, .f3 .staAbsolute⟩,
   ⟨0x8E, .stx, .absolute, 3, .f3 .stxAbsolute⟩]

/-- R70, opcodes 0x90 to 0x9F. -/
def opRows9 : List OpRow :=
  [⟨0x90, .bcc, .relative, 2, .f2 .bcc⟩,
   ⟨0x91, .sta, .indirectY, 2, .f2 .staIndirectY⟩,
   ⟨0x94, .sty, .zeroPageX, 2, .f2 .styZeroPageX⟩,
   ⟨0x95, .sta, .zeroPageX, 2, .f2 .staZeroPageX⟩,
   ⟨0x96, .stx, .zeroPageY, 2, .f2 .stxZeroPageY⟩,
   ⟨0x98, .tya, .implied, 1, .f1 .tya⟩,
   ⟨0x99, .sta, .absoluteY, 3, .f3 .staAbsoluteY⟩,
   ⟨0x9A, .txs, .implied, 1, .f1 .txs⟩,
   ⟨0x9D, .sta, .absoluteX, 3, .f3 .staAbsoluteX⟩]

/-- R70, opcodes 0xA0 to 0xAF. -/
def opRowsA : List OpRow :=
  [⟨0xA0, .ldy, .immediate, 2, .f2 .ldyImmediate⟩,
   ⟨0xA1, .lda, .indirectX, 2, .f2 .ldaIndirectX⟩,
   ⟨0xA2, .ldx, .immediate, 2, .f2 .ldxImmediate⟩,
   ⟨0xA4, .ldy, .zeroPage, 2, .f2 .ldyZeroPage⟩,
   ⟨0xA5, .lda, .zeroPage, 2, .f2 .ldaZeroPage⟩,
   ⟨0xA6, .ldx, .zeroPage, 2, .f2 .ldxZeroPage⟩,
   ⟨0xA8, .tay, .implied, 1, .f1 .tay⟩,
   ⟨0xA9, .lda, .immediate, 2, .f2 .ldaImmediate⟩,
   ⟨0xAA, .tax, .implied, 1, .f1 .tax⟩,
   ⟨0xAC, .ldy, .absolute, 3, .f3 .ldyAbsolute⟩,
   ⟨0xAD, .lda, .absolute, 3, .f3 .ldaAbsolute⟩,
   ⟨0xAE, .ldx, .absolute, 3, .f3 .ldxAbsolute⟩]

/-- R70, opcodes 0xB0 to 0xBF. -/
def opRowsB : List OpRow :=
  [⟨0xB0, .bcs, .relative, 2, .f2 .bcs⟩,
   ⟨0xB1, .lda, .indirectY, 2, .f2 .ldaIndirectY⟩,
   ⟨0xB4, .ldy, .zeroPageX, 2, .f2 .ldyZeroPageX⟩,
   ⟨0xB5, .lda, .zeroPageX, 2, .f2 .ldaZeroPageX⟩,
   ⟨0xB6, .ldx, .zeroPageY, 2, .f2 .ldxZeroPageY⟩,
   ⟨0xB8, .clv, .implied, 1, .f1 .clv⟩,
   ⟨0xB9, .lda, .absoluteY, 3, .f3 .ldaAbsoluteY⟩,
   ⟨0xBA, .tsx, .implied, 1, .f1 .tsx⟩,
   ⟨0xBC, .ldy, .absoluteX, 3, .f3 .ldyAbsoluteX⟩,
   ⟨0xBD, .lda, .absoluteX, 3, .f3 .ldaAbsoluteX⟩,
   ⟨0xBE, .ldx, .absoluteY, 3, .f3 .ldxAbsoluteY⟩]

/-- R70, opcodes 0xC0 to 0xCF. -/
def opRowsC : List OpRow :=
  [⟨0xC0, .cpy, .immediate, 2, .f2 .cpyImmediate⟩,
   ⟨0xC1, .cmp, .indirectX, 2, .f2 .cmpIndirectX⟩,
   ⟨0xC4, .cpy, .zeroPage, 2, .f2 .cpyZeroPage⟩,
   ⟨0xC5, .cmp, .zeroPage, 2, .f2 .cmpZeroPage⟩,
   ⟨0xC6, .dec, .zeroPage, 2, .f2 .decZeroPage⟩,
   ⟨0xC8, .iny, .implied, 1, .f1 .iny⟩,
   ⟨0xC9, .cmp, .immediate, 2, .f2 .cmpImmediate⟩,
   ⟨0xCA, .dex, .implied, 1, .f1 .dex⟩,
   ⟨0xCC, .cpy, .absolute, 3, .f3 .cpyAbsolute⟩,
   ⟨0xCD, .cmp, .absolute, 3, .f3 .cmpAbsolute⟩,
   ⟨0xCE, .dec, .absolute, 3, .f3 .decAbsolute⟩]

/-- R70, opcodes 0xD0 to 0xDF. -/
def opRowsD : List OpRow :=
  [⟨0xD0, .bne, .relative, 2, .f2 .bne⟩,
   ⟨0xD1, .cmp, .indirectY, 2, .f2 .cmpIndirectY⟩,
   ⟨0xD5, .cmp, .zeroPageX, 2, .f2 .cmpZeroPageX⟩,
   ⟨0xD6, .dec, .zeroPageX, 2, .f2 .decZeroPageX⟩,
   ⟨0xD8, .cld, .implied, 1, .f1 .cld⟩,
   ⟨0xD9, .cmp, .absoluteY, 3, .f3 .cmpAbsoluteY⟩,
   ⟨0xDD, .cmp, .absoluteX, 3, .f3 .cmpAbsoluteX⟩,
   ⟨0xDE, .dec, .absoluteX, 3, .f3 .decAbsoluteX⟩]

/-- R70, opcodes 0xE0 to 0xEF. -/
def opRowsE : List OpRow :=
  [⟨0xE0, .cpx, .immediate, 2, .f2 .cpxImmediate⟩,
   ⟨0xE1, .sbc, .indirectX, 2, .f2 .sbcIndirectX⟩,
   ⟨0xE4, .cpx, .zeroPage, 2, .f2 .cpxZeroPage⟩,
   ⟨0xE5, .sbc, .zeroPage, 2, .f2 .sbcZeroPage⟩,
   ⟨0xE6, .inc, .zeroPage, 2, .f2 .incZeroPage⟩,
   ⟨0xE8, .inx, .implied, 1, .f1 .inx⟩,
   ⟨0xE9, .sbc, .immediate, 2, .f2 .sbcImmediate⟩,
   ⟨0xEA, .nop, .implied, 1, .f1 .nop⟩,
   ⟨0xEC, .cpx, .absolute, 3, .f3 .cpxAbsolute⟩,
   ⟨0xED, .sbc, .absolute, 3, .f3 .sbcAbsolute⟩,
   ⟨0xEE, .inc, .absolute, 3, .f3 .incAbsolute⟩]

/-- R70, opcodes 0xF0 to 0xFF. -/
def opRowsF : List OpRow :=
  [⟨0xF0, .beq, .relative, 2, .f2 .beq⟩,
   ⟨0xF1, .sbc, .indirectY, 2, .f2 .sbcIndirectY⟩,
   ⟨0xF5, .sbc, .zeroPageX, 2, .f2 .sbcZeroPageX⟩,
   ⟨0xF6, .inc, .zeroPageX, 2, .f2 .incZeroPageX⟩,
   ⟨0xF8, .sed, .implied, 1, .f1 .sed⟩,
   ⟨0xF9, .sbc, .absoluteY, 3, .f3 .sbcAbsoluteY⟩,
   ⟨0xFD, .sbc, .absoluteX, 3, .f3 .sbcAbsoluteX⟩,
   ⟨0xFE, .inc, .absoluteX, 3, .f3 .incAbsoluteX⟩]

/-- The opcode map as R68's grid: the list at index `h` holds the defined opcodes with high nibble `h`. -/
def opGrid : List (List OpRow) :=
  [opRows0, opRows1, opRows2, opRows3, opRows4, opRows5, opRows6, opRows7,
   opRows8, opRows9, opRowsA, opRowsB, opRowsC, opRowsD, opRowsE, opRowsF]

/-- All 151 rows of R70, in opcode order. -/
def opTable : List OpRow := opGrid.flatten

/-- The row of a byte in the table: `none` for an undefined byte. -/
def rowOf (b : Byte) : Option OpRow :=
  (opGrid.getD (b.toNat / 16) []).find? fun r => r.opcode == b

/-- `lookup` (R69): the OpcodeEntry of a defined opcode, `none` for an undefined byte. -/
def lookup (b : Byte) : Option OpcodeEntry := (rowOf b).map OpRow.entry

/-- `len(b)` (R30, R62): how many bytes DECODE takes for an instruction whose first byte is `b`. -/
def lengthOf (b : Byte) : Nat :=
  match lookup b with
  | some e => e.length
  | none => 1

/-- The mnemonics in the order of their index `MN` (R37). -/
def Mnemonic.all : List Mnemonic :=
  [
   .adc, .and, .asl, .bcc, .bcs, .beq, .bit, .bmi, .bne, .bpl, .brk, .bvc, .bvs, .clc,
   .cld, .cli, .clv, .cmp, .cpx, .cpy, .dec, .dex, .dey, .eor, .inc, .inx, .iny, .jmp,
   .jsr, .lda, .ldx, .ldy, .lsr, .nop, .ora, .pha, .php, .pla, .plp, .rol, .ror, .rti,
   .rts, .sbc, .sec, .sed, .sei, .sta, .stx, .sty, .tax, .tay, .tsx, .txa, .txs, .tya]

/-- The mode codes `MD` (R29): a mode's code is its place in this list. -/
def Mode.all : List Mode :=
  [
   .implied, .accumulator, .immediate, .zeroPage, .zeroPageX, .zeroPageY, .absolute,
   .absoluteX, .absoluteY, .indirect, .indirectX, .indirectY, .relative]

/-- `MN` of a mnemonic (R37). -/
def Mnemonic.index (m : Mnemonic) : BitVec 6 := BitVec.ofNat 6 (Mnemonic.all.idxOf m)

/-- `MD` of a mode (R29). -/
def Mode.code (m : Mode) : BitVec 4 := BitVec.ofNat 4 (Mode.all.idxOf m)

/-- The 13-bit OPROM word of an entry (R36): `V`, `MN`, `MD`, `LN` from bit 12 down. A word with no entry is 0. -/
def packEntry : Option OpcodeEntry → BitVec 13
  | none => 0
  | some e => 1#1 ++ (e.mnemonic.index ++ (e.mode.code ++ BitVec.ofNat 2 e.length))

/-- OPROM word `b` (R36, R38). -/
def romWord (b : Byte) : BitVec 13 := packEntry (lookup b)

/-- How an OPROM word reads (R36): `V = 0` is no entry. The unused codes of `MN` and `MD` read as no entry. -/
def unpackWord (w : BitVec 13) : Option OpcodeEntry :=
  if w.getLsbD 12 then
    match Mnemonic.all[(w.extractLsb' 6 6).toNat]?, Mode.all[(w.extractLsb' 2 4).toNat]? with
    | some mn, some md => some ⟨mn, md, (w.extractLsb' 0 2).toNat⟩
    | _, _ => none
  else none

/-- Why bytes give no instruction. An undefined byte is no error: it decodes as data (R73). -/
inductive DecodeError where
  /-- There is no byte to decode. -/
  | noBytes
  /-- The opcode is defined and needs `need` bytes, more than there are (R104). -/
  | truncated (opcode : Byte) (need : Nat)
deriving DecidableEq, Repr

/-- The decoder (R62, R63): from the bytes at the cursor to an instruction and the bytes after it. -/
def decode : List Byte → Except DecodeError (Instr × List Byte)
  | [] => .error .noBytes
  | op :: rest =>
    match rowOf op with
    | none => .ok (.byte op, rest)
    | some r =>
      match r.form, rest with
      | .f1 i, rest => .ok (i, rest)
      | .f2 mk, b1 :: rest => .ok (mk b1, rest)
      | .f3 mk, lo :: hi :: rest => .ok (mk lo hi, rest)
      | _, _ => .error (.truncated op r.length)

/-- The bytes of an instruction in buffer order (R61 and each row's encoding). -/
def encode : Instr → List Byte
  | .ldaImmediate ii => [0xA9, ii]
  | .ldaZeroPage zz => [0xA5, zz]
  | .ldaZeroPageX zz => [0xB5, zz]
  | .ldaAbsolute lo hi => [0xAD, lo, hi]
  | .ldaAbsoluteX lo hi => [0xBD, lo, hi]
  | .ldaAbsoluteY lo hi => [0xB9, lo, hi]
  | .ldaIndirectX zz => [0xA1, zz]
  | .ldaIndirectY zz => [0xB1, zz]
  | .ldxImmediate ii => [0xA2, ii]
  | .ldxZeroPage zz => [0xA6, zz]
  | .ldxZeroPageY zz => [0xB6, zz]
  | .ldxAbsolute lo hi => [0xAE, lo, hi]
  | .ldxAbsoluteY lo hi => [0xBE, lo, hi]
  | .ldyImmediate ii => [0xA0, ii]
  | .ldyZeroPage zz => [0xA4, zz]
  | .ldyZeroPageX zz => [0xB4, zz]
  | .ldyAbsolute lo hi => [0xAC, lo, hi]
  | .ldyAbsoluteX lo hi => [0xBC, lo, hi]
  | .staZeroPage zz => [0x85, zz]
  | .staZeroPageX zz => [0x95, zz]
  | .staAbsolute lo hi => [0x8D, lo, hi]
  | .staAbsoluteX lo hi => [0x9D, lo, hi]
  | .staAbsoluteY lo hi => [0x99, lo, hi]
  | .staIndirectX zz => [0x81, zz]
  | .staIndirectY zz => [0x91, zz]
  | .stxZeroPage zz => [0x86, zz]
  | .stxZeroPageY zz => [0x96, zz]
  | .stxAbsolute lo hi => [0x8E, lo, hi]
  | .styZeroPage zz => [0x84, zz]
  | .styZeroPageX zz => [0x94, zz]
  | .styAbsolute lo hi => [0x8C, lo, hi]
  | .tax => [0xAA]
  | .tay => [0xA8]
  | .txa => [0x8A]
  | .tya => [0x98]
  | .tsx => [0xBA]
  | .txs => [0x9A]
  | .adcImmediate ii => [0x69, ii]
  | .adcZeroPage zz => [0x65, zz]
  | .adcZeroPageX zz => [0x75, zz]
  | .adcAbsolute lo hi => [0x6D, lo, hi]
  | .adcAbsoluteX lo hi => [0x7D, lo, hi]
  | .adcAbsoluteY lo hi => [0x79, lo, hi]
  | .adcIndirectX zz => [0x61, zz]
  | .adcIndirectY zz => [0x71, zz]
  | .sbcImmediate ii => [0xE9, ii]
  | .sbcZeroPage zz => [0xE5, zz]
  | .sbcZeroPageX zz => [0xF5, zz]
  | .sbcAbsolute lo hi => [0xED, lo, hi]
  | .sbcAbsoluteX lo hi => [0xFD, lo, hi]
  | .sbcAbsoluteY lo hi => [0xF9, lo, hi]
  | .sbcIndirectX zz => [0xE1, zz]
  | .sbcIndirectY zz => [0xF1, zz]
  | .andImmediate ii => [0x29, ii]
  | .andZeroPage zz => [0x25, zz]
  | .andZeroPageX zz => [0x35, zz]
  | .andAbsolute lo hi => [0x2D, lo, hi]
  | .andAbsoluteX lo hi => [0x3D, lo, hi]
  | .andAbsoluteY lo hi => [0x39, lo, hi]
  | .andIndirectX zz => [0x21, zz]
  | .andIndirectY zz => [0x31, zz]
  | .oraImmediate ii => [0x09, ii]
  | .oraZeroPage zz => [0x05, zz]
  | .oraZeroPageX zz => [0x15, zz]
  | .oraAbsolute lo hi => [0x0D, lo, hi]
  | .oraAbsoluteX lo hi => [0x1D, lo, hi]
  | .oraAbsoluteY lo hi => [0x19, lo, hi]
  | .oraIndirectX zz => [0x01, zz]
  | .oraIndirectY zz => [0x11, zz]
  | .eorImmediate ii => [0x49, ii]
  | .eorZeroPage zz => [0x45, zz]
  | .eorZeroPageX zz => [0x55, zz]
  | .eorAbsolute lo hi => [0x4D, lo, hi]
  | .eorAbsoluteX lo hi => [0x5D, lo, hi]
  | .eorAbsoluteY lo hi => [0x59, lo, hi]
  | .eorIndirectX zz => [0x41, zz]
  | .eorIndirectY zz => [0x51, zz]
  | .cmpImmediate ii => [0xC9, ii]
  | .cmpZeroPage zz => [0xC5, zz]
  | .cmpZeroPageX zz => [0xD5, zz]
  | .cmpAbsolute lo hi => [0xCD, lo, hi]
  | .cmpAbsoluteX lo hi => [0xDD, lo, hi]
  | .cmpAbsoluteY lo hi => [0xD9, lo, hi]
  | .cmpIndirectX zz => [0xC1, zz]
  | .cmpIndirectY zz => [0xD1, zz]
  | .cpxImmediate ii => [0xE0, ii]
  | .cpxZeroPage zz => [0xE4, zz]
  | .cpxAbsolute lo hi => [0xEC, lo, hi]
  | .cpyImmediate ii => [0xC0, ii]
  | .cpyZeroPage zz => [0xC4, zz]
  | .cpyAbsolute lo hi => [0xCC, lo, hi]
  | .bitZeroPage zz => [0x24, zz]
  | .bitAbsolute lo hi => [0x2C, lo, hi]
  | .aslAccumulator => [0x0A]
  | .aslZeroPage zz => [0x06, zz]
  | .aslZeroPageX zz => [0x16, zz]
  | .aslAbsolute lo hi => [0x0E, lo, hi]
  | .aslAbsoluteX lo hi => [0x1E, lo, hi]
  | .lsrAccumulator => [0x4A]
  | .lsrZeroPage zz => [0x46, zz]
  | .lsrZeroPageX zz => [0x56, zz]
  | .lsrAbsolute lo hi => [0x4E, lo, hi]
  | .lsrAbsoluteX lo hi => [0x5E, lo, hi]
  | .rolAccumulator => [0x2A]
  | .rolZeroPage zz => [0x26, zz]
  | .rolZeroPageX zz => [0x36, zz]
  | .rolAbsolute lo hi => [0x2E, lo, hi]
  | .rolAbsoluteX lo hi => [0x3E, lo, hi]
  | .rorAccumulator => [0x6A]
  | .rorZeroPage zz => [0x66, zz]
  | .rorZeroPageX zz => [0x76, zz]
  | .rorAbsolute lo hi => [0x6E, lo, hi]
  | .rorAbsoluteX lo hi => [0x7E, lo, hi]
  | .incZeroPage zz => [0xE6, zz]
  | .incZeroPageX zz => [0xF6, zz]
  | .incAbsolute lo hi => [0xEE, lo, hi]
  | .incAbsoluteX lo hi => [0xFE, lo, hi]
  | .decZeroPage zz => [0xC6, zz]
  | .decZeroPageX zz => [0xD6, zz]
  | .decAbsolute lo hi => [0xCE, lo, hi]
  | .decAbsoluteX lo hi => [0xDE, lo, hi]
  | .inx => [0xE8]
  | .iny => [0xC8]
  | .dex => [0xCA]
  | .dey => [0x88]
  | .bpl rr => [0x10, rr]
  | .bmi rr => [0x30, rr]
  | .bvc rr => [0x50, rr]
  | .bvs rr => [0x70, rr]
  | .bcc rr => [0x90, rr]
  | .bcs rr => [0xB0, rr]
  | .bne rr => [0xD0, rr]
  | .beq rr => [0xF0, rr]
  | .jmpAbsolute lo hi => [0x4C, lo, hi]
  | .jmpIndirect lo hi => [0x6C, lo, hi]
  | .jsrAbsolute lo hi => [0x20, lo, hi]
  | .rts => [0x60]
  | .rti => [0x40]
  | .brk => [0x00]
  | .pha => [0x48]
  | .php => [0x08]
  | .pla => [0x68]
  | .plp => [0x28]
  | .clc => [0x18]
  | .sec => [0x38]
  | .cli => [0x58]
  | .sei => [0x78]
  | .clv => [0xB8]
  | .cld => [0xD8]
  | .sed => [0xF8]
  | .nop => [0xEA]
  | .byte b => [b]

/-- The three bytes of a little-endian word `w` (R61), the bits above `nbits` being 0. -/
def wordBytes (nbits w : Nat) : List Byte :=
  let v := w % 2 ^ nbits
  [BitVec.ofNat 8 v, BitVec.ofNat 8 (v / 2 ^ 8), BitVec.ofNat 8 (v / 2 ^ 16)]

/-- The instruction the decoder reads from a word of the opcode table. -/
def decodeTableWord (nbits w : Nat) : Option Instr :=
  match decode (wordBytes nbits w) with
  | .ok (i, _) => some i
  | .error _ => none

end Sys2Proof
end

