-- ==== Sys2Proof/Machine/Operands.lean ====
section
/-! DEFINITION. Operand assembly (R64), the operand formatter FMT with its relative-branch resolver (R130 to R145), and
`render`. -/

namespace Sys2Proof.Machine

/-- How many operand bytes each mode has (R29). -/
def operandBytes : Mode → Nat
  | .implied => 0
  | .accumulator => 0
  | .immediate => 1
  | .zeroPage => 1
  | .zeroPageX => 1
  | .zeroPageY => 1
  | .absolute => 2
  | .absoluteX => 2
  | .absoluteY => 2
  | .indirect => 2
  | .indirectX => 1
  | .indirectY => 1
  | .relative => 1

/-- A 2-byte operand, low byte first (R44). -/
def operand16 (lo hi : Byte) : Word := lo.setWidth 16 + 256 * hi.setWidth 16

/-- `operandValue(mode, bytes)` (R64), from the instruction's bytes with the opcode first. -/
def operandValue (mode : Mode) (bytes : List Byte) : Option Word :=
  match operandBytes mode, bytes with
  | 1, _ :: b1 :: _ => some (b1.setWidth 16)
  | 2, _ :: b1 :: b2 :: _ => some (operand16 b1 b2)
  | _, _ => none

/-- The uppercase digits (R130). -/
def hexDigits : Text :=
  ['0', '1', '2', '3', '4', '5', '6', '7', '8', '9', 'A', 'B', 'C', 'D', 'E', 'F']

/-- One digit. -/
def hexDigit (d : BitVec 4) : Char := hexDigits.getD d.toNat '0'

/-- `hex2` (R130). -/
def hex2 (v : Byte) : Text := [hexDigit (v.extractLsb' 4 4), hexDigit (v.extractLsb' 0 4)]

/-- `hex4` (R130). -/
def hex4 (v : Word) : Text :=
  [hexDigit (v.extractLsb' 12 4), hexDigit (v.extractLsb' 8 4), hexDigit (v.extractLsb' 4 4),
   hexDigit (v.extractLsb' 0 4)]

/-- The displacement of a Relative operand: its low byte read as two's complement (R140). -/
def disp (v : Word) : Word := (v.setWidth 8).signExtend 16

/-- The branch target, modulo 2^16 (R141). -/
def target (addr v : Word) : Word := addr + 2 + disp v

/-- `hex2` of an operand value of one byte. FMT is called with values in its range only (R145). -/
def hexLow (v : Word) : Text := hex2 (v.setWidth 8)

/-- `fmt(mode, v, addr)` (R131 to R142). FMT is never called without an operand value in a mode that has one (R145); the
text is empty there (log 6). -/
def fmt (mode : Mode) (v : Option Word) (addr : Word) : Text :=
  match mode, v with
  | .implied, _ => []
  | .accumulator, _ => []
  | .immediate, some v => "#$".toList ++ hexLow v
  | .zeroPage, some v => "$".toList ++ hexLow v
  | .zeroPageX, some v => "$".toList ++ hexLow v ++ ",X".toList
  | .zeroPageY, some v => "$".toList ++ hexLow v ++ ",Y".toList
  | .absolute, some v => "$".toList ++ hex4 v
  | .absoluteX, some v => "$".toList ++ hex4 v ++ ",X".toList
  | .absoluteY, some v => "$".toList ++ hex4 v ++ ",Y".toList
  | .indirect, some v => "($".toList ++ hex4 v ++ ")".toList
  | .indirectX, some v => "($".toList ++ hexLow v ++ ",X)".toList
  | .indirectY, some v => "($".toList ++ hexLow v ++ "),Y".toList
  | .relative, some v => "$".toList ++ hex4 (target addr v)
  | _, none => []

/-- `render(mn, mode, v, addr)` (R143). -/
def render (mn : Text) (mode : Mode) (v : Option Word) (addr : Word) : Text :=
  let t := fmt mode v addr
  if t = [] then mn else mn ++ " ".toList ++ t

/-- A mnemonic as the table spells it: 3 uppercase letters, no suffix (R28, R77). -/
def mnemonicText : Mnemonic → Text
  | .adc => ['A', 'D', 'C']
  | .and => ['A', 'N', 'D']
  | .asl => ['A', 'S', 'L']
  | .bcc => ['B', 'C', 'C']
  | .bcs => ['B', 'C', 'S']
  | .beq => ['B', 'E', 'Q']
  | .bit => ['B', 'I', 'T']
  | .bmi => ['B', 'M', 'I']
  | .bne => ['B', 'N', 'E']
  | .bpl => ['B', 'P', 'L']
  | .brk => ['B', 'R', 'K']
  | .bvc => ['B', 'V', 'C']
  | .bvs => ['B', 'V', 'S']
  | .clc => ['C', 'L', 'C']
  | .cld => ['C', 'L', 'D']
  | .cli => ['C', 'L', 'I']
  | .clv => ['C', 'L', 'V']
  | .cmp => ['C', 'M', 'P']
  | .cpx => ['C', 'P', 'X']
  | .cpy => ['C', 'P', 'Y']
  | .dec => ['D', 'E', 'C']
  | .dex => ['D', 'E', 'X']
  | .dey => ['D', 'E', 'Y']
  | .eor => ['E', 'O', 'R']
  | .inc => ['I', 'N', 'C']
  | .inx => ['I', 'N', 'X']
  | .iny => ['I', 'N', 'Y']
  | .jmp => ['J', 'M', 'P']
  | .jsr => ['J', 'S', 'R']
  | .lda => ['L', 'D', 'A']
  | .ldx => ['L', 'D', 'X']
  | .ldy => ['L', 'D', 'Y']
  | .lsr => ['L', 'S', 'R']
  | .nop => ['N', 'O', 'P']
  | .ora => ['O', 'R', 'A']
  | .pha => ['P', 'H', 'A']
  | .php => ['P', 'H', 'P']
  | .pla => ['P', 'L', 'A']
  | .plp => ['P', 'L', 'P']
  | .rol => ['R', 'O', 'L']
  | .ror => ['R', 'O', 'R']
  | .rti => ['R', 'T', 'I']
  | .rts => ['R', 'T', 'S']
  | .sbc => ['S', 'B', 'C']
  | .sec => ['S', 'E', 'C']
  | .sed => ['S', 'E', 'D']
  | .sei => ['S', 'E', 'I']
  | .sta => ['S', 'T', 'A']
  | .stx => ['S', 'T', 'X']
  | .sty => ['S', 'T', 'Y']
  | .tax => ['T', 'A', 'X']
  | .tay => ['T', 'A', 'Y']
  | .tsx => ['T', 'S', 'X']
  | .txa => ['T', 'X', 'A']
  | .txs => ['T', 'X', 'S']
  | .tya => ['T', 'Y', 'A']

end Sys2Proof.Machine
end

