-- ==== Sys2Proof/Machine/Ops.lean ====
section
/-! DEFINITION. The shared operations: emitting a record, ending a run, raising an error (the block's one form of
exception entry, R500), the decode of one instruction, and the host's START, reset, load and register reads. -/

namespace Sys2Proof.Machine

/-- The target address of a buffer offset (R42). -/
def addressOf (base : Word) (off : Nat) : Word := base + BitVec.ofNat 16 off

/-- The record of an instruction with entry `e` and bytes `raw` at address `a` (R27, R103). -/
def instrRecord (e : OpcodeEntry) (raw : List Byte) (a : Word) : Record :=
  let v := operandValue e.mode raw
  { kind := .instr, address := a, rawBytes := raw, mnemonic := mnemonicText e.mnemonic, mode := e.mode,
    operandValue := v, renderedText := render (mnemonicText e.mnemonic) e.mode v a }

/-- The mnemonic of a data record (R76). -/
def dataMnemonic : Text := ".byte".toList

/-- The data record of a byte at address `a` (R105). -/
def dataRecord (b : Byte) (a : Word) : Record :=
  { kind := .data, address := a, rawBytes := [b], mnemonic := dataMnemonic, mode := .implied, operandValue := none,
    renderedText := dataMnemonic ++ " $".toList ++ hex2 b }

/-- `emit(rec); x[CUR] <- cur + n` (R106). -/
def State.emit (s : State) (r : Record) (n : Nat) : State := { s with cur := s.cur + n, out := s.out ++ [r] }

/-- The run ends normally (R106). -/
def State.finish (s : State) : State := { s with status := .done }

/-- `raise E(info)` (R500, R508): STATUS and ERRINFO, and nothing else. There is no vector, no saved program counter and
no return but a new START (R508, R509). -/
def State.raise (s : State) (e : Status) (info : ErrInfo) : State := { s with status := e, errInfo := info }

/-- Emit the byte `b` at the cursor as a data record and take one byte (R105, R108). -/
def emitData (b : Byte) (s : State) : State := s.emit (dataRecord b (addressOf s.base s.cur)) 1

/-- The truncation outcome of opcode `op`, which needs `need` bytes (R106, R108, R503): with `RC = 1` the error is raised,
with `RC = 0` the opcode byte becomes a data record. -/
def truncate (op : Byte) (need : Nat) (s : State) : State :=
  if s.rc then s.raise .truncated (.truncated s.cur op need (s.buf.size - s.cur)) else emitData op s

/-- The decode of the instruction with entry `e`, opcode `op` and operand bytes `args` at the cursor (R103, R106): the
truncation outcome when it does not fit in the buffer (R104), else its record, and the cursor past it. -/
def emitInstr (e : OpcodeEntry) (op : Byte) (args : List Byte) (s : State) : Host.Outcome State Fault Refusal :=
  if s.cur + e.length ≤ s.buf.size then
    .next (s.emit (instrRecord e (op :: args) (addressOf s.base s.cur)) e.length)
  else .next (truncate op e.length s)

/-- A START that is accepted writes CUR, END, BASE, CTRL, ERRINFO and STATUS (R100). -/
def State.begin (s : State) (st en base : Nat) (rc : Bool) : State :=
  { s with status := .running, cur := st, endOff := min en s.buf.size, base := BitVec.ofNat 16 base,
           ctrl := ctrlOf rc, written := true, errInfo := .none }

/-- START (R100, R101, R505), in any status. A START that gives no `requireComplete` writes the default (R40). -/
def hostStart (st en base : Nat) (rc : Option Bool) (s : State) : State :=
  if s.buf.size ≤ st then s.raise .invalidRange (.invalidRange .startPastEnd)
  else if en < st then s.raise .invalidRange (.invalidRange .endBeforeStart)
  else s.begin st en base (rc.getD Config.defaultRequireComplete)

/-- Reset (R40, R550): the block's registers; the host's buffer, output stream and pending operations stay. -/
def hostReset (s : State) : State := { State.reset with buf := s.buf, out := s.out, inbox := s.inbox }

/-- The host places the bytes `bs` in the buffer, between runs (R553). During a run the spec defines no run (R50). -/
def hostLoad (bs : List Byte) (s : State) : Host.Outcome State Fault Refusal :=
  if s.status = .running then .refused .bufferChangedDuringRun else .next { s with buf := Memory.load bs }

/-- What a host read of a register answers, in every state (R20, R511). Before a START has written CUR, END, BASE and CTRL
it is the value that reset leaves in them (log 1). -/
def readReg (r : Reg) (s : State) : RegValue :=
  match r with
  | .status => .code s.status.code
  | .cur => .offset s.cur
  | .endOff => .offset s.endOff
  | .base => .address s.base
  | .ctrl => .bit s.ctrl
  | .errInfo => .info s.errInfo

/-- The registers that hold no value until a START writes them (R40). -/
def Reg.ofRun : Reg → Bool
  | .status | .errInfo => false
  | .cur | .endOff | .base | .ctrl => true

/-- The value the spec gives a register: absent while it holds none (R40). -/
def heldValue (r : Reg) (s : State) : Option RegValue :=
  if r.ofRun && !s.written then none else some (readReg r s)

end Sys2Proof.Machine
end

