-- ==== Sys2Proof/Machine/ArithLogic.lean ====
section
/-! DEFINITION. The meanings of the family arithmetic, logical, compare and bit test (43_arith_logic.md, R240 to R296).
DEC6502 executes nothing (R3): the meaning of an instruction is its decode, the record emitted and the cursor moved, or
the truncation outcome. -/

namespace Sys2Proof.Machine

/-- R241: ADC, Immediate, opcode 0x69. -/
def execAdcImmediate (ii : Byte) (s : State) : Host.Outcome State Fault Refusal :=
  emitInstr ⟨.adc, .immediate, 2⟩ 0x69 [ii] s

/-- R242: ADC, ZeroPage, opcode 0x65. -/
def execAdcZeroPage (zz : Byte) (s : State) : Host.Outcome State Fault Refusal :=
  emitInstr ⟨.adc, .zeroPage, 2⟩ 0x65 [zz] s

/-- R243: ADC, ZeroPageX, opcode 0x75. -/
def execAdcZeroPageX (zz : Byte) (s : State) : Host.Outcome State Fault Refusal :=
  emitInstr ⟨.adc, .zeroPageX, 2⟩ 0x75 [zz] s

/-- R244: ADC, Absolute, opcode 0x6D. -/
def execAdcAbsolute (lo hi : Byte) (s : State) : Host.Outcome State Fault Refusal :=
  emitInstr ⟨.adc, .absolute, 3⟩ 0x6D [lo, hi] s

/-- R245: ADC, AbsoluteX, opcode 0x7D. -/
def execAdcAbsoluteX (lo hi : Byte) (s : State) : Host.Outcome State Fault Refusal :=
  emitInstr ⟨.adc, .absoluteX, 3⟩ 0x7D [lo, hi] s

/-- R246: ADC, AbsoluteY, opcode 0x79. -/
def execAdcAbsoluteY (lo hi : Byte) (s : State) : Host.Outcome State Fault Refusal :=
  emitInstr ⟨.adc, .absoluteY, 3⟩ 0x79 [lo, hi] s

/-- R247: ADC, IndirectX, opcode 0x61. -/
def execAdcIndirectX (zz : Byte) (s : State) : Host.Outcome State Fault Refusal :=
  emitInstr ⟨.adc, .indirectX, 2⟩ 0x61 [zz] s

/-- R248: ADC, IndirectY, opcode 0x71. -/
def execAdcIndirectY (zz : Byte) (s : State) : Host.Outcome State Fault Refusal :=
  emitInstr ⟨.adc, .indirectY, 2⟩ 0x71 [zz] s

/-- R249: SBC, Immediate, opcode 0xE9. -/
def execSbcImmediate (ii : Byte) (s : State) : Host.Outcome State Fault Refusal :=
  emitInstr ⟨.sbc, .immediate, 2⟩ 0xE9 [ii] s

/-- R250: SBC, ZeroPage, opcode 0xE5. -/
def execSbcZeroPage (zz : Byte) (s : State) : Host.Outcome State Fault Refusal :=
  emitInstr ⟨.sbc, .zeroPage, 2⟩ 0xE5 [zz] s

/-- R251: SBC, ZeroPageX, opcode 0xF5. -/
def execSbcZeroPageX (zz : Byte) (s : State) : Host.Outcome State Fault Refusal :=
  emitInstr ⟨.sbc, .zeroPageX, 2⟩ 0xF5 [zz] s

/-- R252: SBC, Absolute, opcode 0xED. -/
def execSbcAbsolute (lo hi : Byte) (s : State) : Host.Outcome State Fault Refusal :=
  emitInstr ⟨.sbc, .absolute, 3⟩ 0xED [lo, hi] s

/-- R253: SBC, AbsoluteX, opcode 0xFD. -/
def execSbcAbsoluteX (lo hi : Byte) (s : State) : Host.Outcome State Fault Refusal :=
  emitInstr ⟨.sbc, .absoluteX, 3⟩ 0xFD [lo, hi] s

/-- R254: SBC, AbsoluteY, opcode 0xF9. -/
def execSbcAbsoluteY (lo hi : Byte) (s : State) : Host.Outcome State Fault Refusal :=
  emitInstr ⟨.sbc, .absoluteY, 3⟩ 0xF9 [lo, hi] s

/-- R255: SBC, IndirectX, opcode 0xE1. -/
def execSbcIndirectX (zz : Byte) (s : State) : Host.Outcome State Fault Refusal :=
  emitInstr ⟨.sbc, .indirectX, 2⟩ 0xE1 [zz] s

/-- R256: SBC, IndirectY, opcode 0xF1. -/
def execSbcIndirectY (zz : Byte) (s : State) : Host.Outcome State Fault Refusal :=
  emitInstr ⟨.sbc, .indirectY, 2⟩ 0xF1 [zz] s

/-- R257: AND, Immediate, opcode 0x29. -/
def execAndImmediate (ii : Byte) (s : State) : Host.Outcome State Fault Refusal :=
  emitInstr ⟨.and, .immediate, 2⟩ 0x29 [ii] s

/-- R258: AND, ZeroPage, opcode 0x25. -/
def execAndZeroPage (zz : Byte) (s : State) : Host.Outcome State Fault Refusal :=
  emitInstr ⟨.and, .zeroPage, 2⟩ 0x25 [zz] s

/-- R259: AND, ZeroPageX, opcode 0x35. -/
def execAndZeroPageX (zz : Byte) (s : State) : Host.Outcome State Fault Refusal :=
  emitInstr ⟨.and, .zeroPageX, 2⟩ 0x35 [zz] s

/-- R260: AND, Absolute, opcode 0x2D. -/
def execAndAbsolute (lo hi : Byte) (s : State) : Host.Outcome State Fault Refusal :=
  emitInstr ⟨.and, .absolute, 3⟩ 0x2D [lo, hi] s

/-- R261: AND, AbsoluteX, opcode 0x3D. -/
def execAndAbsoluteX (lo hi : Byte) (s : State) : Host.Outcome State Fault Refusal :=
  emitInstr ⟨.and, .absoluteX, 3⟩ 0x3D [lo, hi] s

/-- R262: AND, AbsoluteY, opcode 0x39. -/
def execAndAbsoluteY (lo hi : Byte) (s : State) : Host.Outcome State Fault Refusal :=
  emitInstr ⟨.and, .absoluteY, 3⟩ 0x39 [lo, hi] s

/-- R263: AND, IndirectX, opcode 0x21. -/
def execAndIndirectX (zz : Byte) (s : State) : Host.Outcome State Fault Refusal :=
  emitInstr ⟨.and, .indirectX, 2⟩ 0x21 [zz] s

/-- R264: AND, IndirectY, opcode 0x31. -/
def execAndIndirectY (zz : Byte) (s : State) : Host.Outcome State Fault Refusal :=
  emitInstr ⟨.and, .indirectY, 2⟩ 0x31 [zz] s

/-- R265: ORA, Immediate, opcode 0x09. -/
def execOraImmediate (ii : Byte) (s : State) : Host.Outcome State Fault Refusal :=
  emitInstr ⟨.ora, .immediate, 2⟩ 0x09 [ii] s

/-- R266: ORA, ZeroPage, opcode 0x05. -/
def execOraZeroPage (zz : Byte) (s : State) : Host.Outcome State Fault Refusal :=
  emitInstr ⟨.ora, .zeroPage, 2⟩ 0x05 [zz] s

/-- R267: ORA, ZeroPageX, opcode 0x15. -/
def execOraZeroPageX (zz : Byte) (s : State) : Host.Outcome State Fault Refusal :=
  emitInstr ⟨.ora, .zeroPageX, 2⟩ 0x15 [zz] s

/-- R268: ORA, Absolute, opcode 0x0D. -/
def execOraAbsolute (lo hi : Byte) (s : State) : Host.Outcome State Fault Refusal :=
  emitInstr ⟨.ora, .absolute, 3⟩ 0x0D [lo, hi] s

/-- R269: ORA, AbsoluteX, opcode 0x1D. -/
def execOraAbsoluteX (lo hi : Byte) (s : State) : Host.Outcome State Fault Refusal :=
  emitInstr ⟨.ora, .absoluteX, 3⟩ 0x1D [lo, hi] s

/-- R270: ORA, AbsoluteY, opcode 0x19. -/
def execOraAbsoluteY (lo hi : Byte) (s : State) : Host.Outcome State Fault Refusal :=
  emitInstr ⟨.ora, .absoluteY, 3⟩ 0x19 [lo, hi] s

/-- R271: ORA, IndirectX, opcode 0x01. -/
def execOraIndirectX (zz : Byte) (s : State) : Host.Outcome State Fault Refusal :=
  emitInstr ⟨.ora, .indirectX, 2⟩ 0x01 [zz] s

/-- R272: ORA, IndirectY, opcode 0x11. -/
def execOraIndirectY (zz : Byte) (s : State) : Host.Outcome State Fault Refusal :=
  emitInstr ⟨.ora, .indirectY, 2⟩ 0x11 [zz] s

/-- R273: EOR, Immediate, opcode 0x49. -/
def execEorImmediate (ii : Byte) (s : State) : Host.Outcome State Fault Refusal :=
  emitInstr ⟨.eor, .immediate, 2⟩ 0x49 [ii] s

/-- R274: EOR, ZeroPage, opcode 0x45. -/
def execEorZeroPage (zz : Byte) (s : State) : Host.Outcome State Fault Refusal :=
  emitInstr ⟨.eor, .zeroPage, 2⟩ 0x45 [zz] s

/-- R275: EOR, ZeroPageX, opcode 0x55. -/
def execEorZeroPageX (zz : Byte) (s : State) : Host.Outcome State Fault Refusal :=
  emitInstr ⟨.eor, .zeroPageX, 2⟩ 0x55 [zz] s

/-- R276: EOR, Absolute, opcode 0x4D. -/
def execEorAbsolute (lo hi : Byte) (s : State) : Host.Outcome State Fault Refusal :=
  emitInstr ⟨.eor, .absolute, 3⟩ 0x4D [lo, hi] s

/-- R277: EOR, AbsoluteX, opcode 0x5D. -/
def execEorAbsoluteX (lo hi : Byte) (s : State) : Host.Outcome State Fault Refusal :=
  emitInstr ⟨.eor, .absoluteX, 3⟩ 0x5D [lo, hi] s

/-- R278: EOR, AbsoluteY, opcode 0x59. -/
def execEorAbsoluteY (lo hi : Byte) (s : State) : Host.Outcome State Fault Refusal :=
  emitInstr ⟨.eor, .absoluteY, 3⟩ 0x59 [lo, hi] s

/-- R279: EOR, IndirectX, opcode 0x41. -/
def execEorIndirectX (zz : Byte) (s : State) : Host.Outcome State Fault Refusal :=
  emitInstr ⟨.eor, .indirectX, 2⟩ 0x41 [zz] s

/-- R280: EOR, IndirectY, opcode 0x51. -/
def execEorIndirectY (zz : Byte) (s : State) : Host.Outcome State Fault Refusal :=
  emitInstr ⟨.eor, .indirectY, 2⟩ 0x51 [zz] s

/-- R281: CMP, Immediate, opcode 0xC9. -/
def execCmpImmediate (ii : Byte) (s : State) : Host.Outcome State Fault Refusal :=
  emitInstr ⟨.cmp, .immediate, 2⟩ 0xC9 [ii] s

/-- R282: CMP, ZeroPage, opcode 0xC5. -/
def execCmpZeroPage (zz : Byte) (s : State) : Host.Outcome State Fault Refusal :=
  emitInstr ⟨.cmp, .zeroPage, 2⟩ 0xC5 [zz] s

/-- R283: CMP, ZeroPageX, opcode 0xD5. -/
def execCmpZeroPageX (zz : Byte) (s : State) : Host.Outcome State Fault Refusal :=
  emitInstr ⟨.cmp, .zeroPageX, 2⟩ 0xD5 [zz] s

/-- R284: CMP, Absolute, opcode 0xCD. -/
def execCmpAbsolute (lo hi : Byte) (s : State) : Host.Outcome State Fault Refusal :=
  emitInstr ⟨.cmp, .absolute, 3⟩ 0xCD [lo, hi] s

/-- R285: CMP, AbsoluteX, opcode 0xDD. -/
def execCmpAbsoluteX (lo hi : Byte) (s : State) : Host.Outcome State Fault Refusal :=
  emitInstr ⟨.cmp, .absoluteX, 3⟩ 0xDD [lo, hi] s

/-- R286: CMP, AbsoluteY, opcode 0xD9. -/
def execCmpAbsoluteY (lo hi : Byte) (s : State) : Host.Outcome State Fault Refusal :=
  emitInstr ⟨.cmp, .absoluteY, 3⟩ 0xD9 [lo, hi] s

/-- R287: CMP, IndirectX, opcode 0xC1. -/
def execCmpIndirectX (zz : Byte) (s : State) : Host.Outcome State Fault Refusal :=
  emitInstr ⟨.cmp, .indirectX, 2⟩ 0xC1 [zz] s

/-- R288: CMP, IndirectY, opcode 0xD1. -/
def execCmpIndirectY (zz : Byte) (s : State) : Host.Outcome State Fault Refusal :=
  emitInstr ⟨.cmp, .indirectY, 2⟩ 0xD1 [zz] s

/-- R289: CPX, Immediate, opcode 0xE0. -/
def execCpxImmediate (ii : Byte) (s : State) : Host.Outcome State Fault Refusal :=
  emitInstr ⟨.cpx, .immediate, 2⟩ 0xE0 [ii] s

/-- R290: CPX, ZeroPage, opcode 0xE4. -/
def execCpxZeroPage (zz : Byte) (s : State) : Host.Outcome State Fault Refusal :=
  emitInstr ⟨.cpx, .zeroPage, 2⟩ 0xE4 [zz] s

/-- R291: CPX, Absolute, opcode 0xEC. -/
def execCpxAbsolute (lo hi : Byte) (s : State) : Host.Outcome State Fault Refusal :=
  emitInstr ⟨.cpx, .absolute, 3⟩ 0xEC [lo, hi] s

/-- R292: CPY, Immediate, opcode 0xC0. -/
def execCpyImmediate (ii : Byte) (s : State) : Host.Outcome State Fault Refusal :=
  emitInstr ⟨.cpy, .immediate, 2⟩ 0xC0 [ii] s

/-- R293: CPY, ZeroPage, opcode 0xC4. -/
def execCpyZeroPage (zz : Byte) (s : State) : Host.Outcome State Fault Refusal :=
  emitInstr ⟨.cpy, .zeroPage, 2⟩ 0xC4 [zz] s

/-- R294: CPY, Absolute, opcode 0xCC. -/
def execCpyAbsolute (lo hi : Byte) (s : State) : Host.Outcome State Fault Refusal :=
  emitInstr ⟨.cpy, .absolute, 3⟩ 0xCC [lo, hi] s

/-- R295: BIT, ZeroPage, opcode 0x24. -/
def execBitZeroPage (zz : Byte) (s : State) : Host.Outcome State Fault Refusal :=
  emitInstr ⟨.bit, .zeroPage, 2⟩ 0x24 [zz] s

/-- R296: BIT, Absolute, opcode 0x2C. -/
def execBitAbsolute (lo hi : Byte) (s : State) : Host.Outcome State Fault Refusal :=
  emitInstr ⟨.bit, .absolute, 3⟩ 0x2C [lo, hi] s

end Sys2Proof.Machine
end

