-- ==== Sys2Proof/Machine/ControlTransfer.lean ====
section
/-! DEFINITION. The meanings of the family branches, jumps, subroutine and interrupt instructions (45_control_transfer.md, R340 to R354).
DEC6502 executes nothing (R3): the meaning of an instruction is its decode, the record emitted and the cursor moved, or
the truncation outcome. -/

namespace Sys2Proof.Machine

/-- R341: BPL, Relative, opcode 0x10. -/
def execBpl (rr : Byte) (s : State) : Host.Outcome State Fault Refusal :=
  emitInstr ⟨.bpl, .relative, 2⟩ 0x10 [rr] s

/-- R342: BMI, Relative, opcode 0x30. -/
def execBmi (rr : Byte) (s : State) : Host.Outcome State Fault Refusal :=
  emitInstr ⟨.bmi, .relative, 2⟩ 0x30 [rr] s

/-- R343: BVC, Relative, opcode 0x50. -/
def execBvc (rr : Byte) (s : State) : Host.Outcome State Fault Refusal :=
  emitInstr ⟨.bvc, .relative, 2⟩ 0x50 [rr] s

/-- R344: BVS, Relative, opcode 0x70. -/
def execBvs (rr : Byte) (s : State) : Host.Outcome State Fault Refusal :=
  emitInstr ⟨.bvs, .relative, 2⟩ 0x70 [rr] s

/-- R345: BCC, Relative, opcode 0x90. -/
def execBcc (rr : Byte) (s : State) : Host.Outcome State Fault Refusal :=
  emitInstr ⟨.bcc, .relative, 2⟩ 0x90 [rr] s

/-- R346: BCS, Relative, opcode 0xB0. -/
def execBcs (rr : Byte) (s : State) : Host.Outcome State Fault Refusal :=
  emitInstr ⟨.bcs, .relative, 2⟩ 0xB0 [rr] s

/-- R347: BNE, Relative, opcode 0xD0. -/
def execBne (rr : Byte) (s : State) : Host.Outcome State Fault Refusal :=
  emitInstr ⟨.bne, .relative, 2⟩ 0xD0 [rr] s

/-- R348: BEQ, Relative, opcode 0xF0. -/
def execBeq (rr : Byte) (s : State) : Host.Outcome State Fault Refusal :=
  emitInstr ⟨.beq, .relative, 2⟩ 0xF0 [rr] s

/-- R349: JMP, Absolute, opcode 0x4C. -/
def execJmpAbsolute (lo hi : Byte) (s : State) : Host.Outcome State Fault Refusal :=
  emitInstr ⟨.jmp, .absolute, 3⟩ 0x4C [lo, hi] s

/-- R350: JMP, Indirect, opcode 0x6C. -/
def execJmpIndirect (lo hi : Byte) (s : State) : Host.Outcome State Fault Refusal :=
  emitInstr ⟨.jmp, .indirect, 3⟩ 0x6C [lo, hi] s

/-- R351: JSR, Absolute, opcode 0x20. -/
def execJsrAbsolute (lo hi : Byte) (s : State) : Host.Outcome State Fault Refusal :=
  emitInstr ⟨.jsr, .absolute, 3⟩ 0x20 [lo, hi] s

/-- R352: RTS, Implied, opcode 0x60. -/
def execRts (s : State) : Host.Outcome State Fault Refusal :=
  emitInstr ⟨.rts, .implied, 1⟩ 0x60 [] s

/-- R353: RTI, Implied, opcode 0x40. -/
def execRti (s : State) : Host.Outcome State Fault Refusal :=
  emitInstr ⟨.rti, .implied, 1⟩ 0x40 [] s

/-- R354: BRK, Implied, opcode 0x00. -/
def execBrk (s : State) : Host.Outcome State Fault Refusal :=
  emitInstr ⟨.brk, .implied, 1⟩ 0x00 [] s

end Sys2Proof.Machine
end

