-- ==== Sys2Proof/Machine/LoadStore.lean ====
section
/-! DEFINITION. The meanings of the family load, store and register transfer (42_load_store_transfer.md, R200 to R237).
DEC6502 executes nothing (R3): the meaning of an instruction is its decode, the record emitted and the cursor moved, or
the truncation outcome. -/

namespace Sys2Proof.Machine

/-- R201: LDA, Immediate, opcode 0xA9. -/
def execLdaImmediate (ii : Byte) (s : State) : Host.Outcome State Fault Refusal :=
  emitInstr ⟨.lda, .immediate, 2⟩ 0xA9 [ii] s

/-- R202: LDA, ZeroPage, opcode 0xA5. -/
def execLdaZeroPage (zz : Byte) (s : State) : Host.Outcome State Fault Refusal :=
  emitInstr ⟨.lda, .zeroPage, 2⟩ 0xA5 [zz] s

/-- R203: LDA, ZeroPageX, opcode 0xB5. -/
def execLdaZeroPageX (zz : Byte) (s : State) : Host.Outcome State Fault Refusal :=
  emitInstr ⟨.lda, .zeroPageX, 2⟩ 0xB5 [zz] s

/-- R204: LDA, Absolute, opcode 0xAD. -/
def execLdaAbsolute (lo hi : Byte) (s : State) : Host.Outcome State Fault Refusal :=
  emitInstr ⟨.lda, .absolute, 3⟩ 0xAD [lo, hi] s

/-- R205: LDA, AbsoluteX, opcode 0xBD. -/
def execLdaAbsoluteX (lo hi : Byte) (s : State) : Host.Outcome State Fault Refusal :=
  emitInstr ⟨.lda, .absoluteX, 3⟩ 0xBD [lo, hi] s

/-- R206: LDA, AbsoluteY, opcode 0xB9. -/
def execLdaAbsoluteY (lo hi : Byte) (s : State) : Host.Outcome State Fault Refusal :=
  emitInstr ⟨.lda, .absoluteY, 3⟩ 0xB9 [lo, hi] s

/-- R207: LDA, IndirectX, opcode 0xA1. -/
def execLdaIndirectX (zz : Byte) (s : State) : Host.Outcome State Fault Refusal :=
  emitInstr ⟨.lda, .indirectX, 2⟩ 0xA1 [zz] s

/-- R208: LDA, IndirectY, opcode 0xB1. -/
def execLdaIndirectY (zz : Byte) (s : State) : Host.Outcome State Fault Refusal :=
  emitInstr ⟨.lda, .indirectY, 2⟩ 0xB1 [zz] s

/-- R209: LDX, Immediate, opcode 0xA2. -/
def execLdxImmediate (ii : Byte) (s : State) : Host.Outcome State Fault Refusal :=
  emitInstr ⟨.ldx, .immediate, 2⟩ 0xA2 [ii] s

/-- R210: LDX, ZeroPage, opcode 0xA6. -/
def execLdxZeroPage (zz : Byte) (s : State) : Host.Outcome State Fault Refusal :=
  emitInstr ⟨.ldx, .zeroPage, 2⟩ 0xA6 [zz] s

/-- R211: LDX, ZeroPageY, opcode 0xB6. -/
def execLdxZeroPageY (zz : Byte) (s : State) : Host.Outcome State Fault Refusal :=
  emitInstr ⟨.ldx, .zeroPageY, 2⟩ 0xB6 [zz] s

/-- R212: LDX, Absolute, opcode 0xAE. -/
def execLdxAbsolute (lo hi : Byte) (s : State) : Host.Outcome State Fault Refusal :=
  emitInstr ⟨.ldx, .absolute, 3⟩ 0xAE [lo, hi] s

/-- R213: LDX, AbsoluteY, opcode 0xBE. -/
def execLdxAbsoluteY (lo hi : Byte) (s : State) : Host.Outcome State Fault Refusal :=
  emitInstr ⟨.ldx, .absoluteY, 3⟩ 0xBE [lo, hi] s

/-- R214: LDY, Immediate, opcode 0xA0. -/
def execLdyImmediate (ii : Byte) (s : State) : Host.Outcome State Fault Refusal :=
  emitInstr ⟨.ldy, .immediate, 2⟩ 0xA0 [ii] s

/-- R215: LDY, ZeroPage, opcode 0xA4. -/
def execLdyZeroPage (zz : Byte) (s : State) : Host.Outcome State Fault Refusal :=
  emitInstr ⟨.ldy, .zeroPage, 2⟩ 0xA4 [zz] s

/-- R216: LDY, ZeroPageX, opcode 0xB4. -/
def execLdyZeroPageX (zz : Byte) (s : State) : Host.Outcome State Fault Refusal :=
  emitInstr ⟨.ldy, .zeroPageX, 2⟩ 0xB4 [zz] s

/-- R217: LDY, Absolute, opcode 0xAC. -/
def execLdyAbsolute (lo hi : Byte) (s : State) : Host.Outcome State Fault Refusal :=
  emitInstr ⟨.ldy, .absolute, 3⟩ 0xAC [lo, hi] s

/-- R218: LDY, AbsoluteX, opcode 0xBC. -/
def execLdyAbsoluteX (lo hi : Byte) (s : State) : Host.Outcome State Fault Refusal :=
  emitInstr ⟨.ldy, .absoluteX, 3⟩ 0xBC [lo, hi] s

/-- R219: STA, ZeroPage, opcode 0x85. -/
def execStaZeroPage (zz : Byte) (s : State) : Host.Outcome State Fault Refusal :=
  emitInstr ⟨.sta, .zeroPage, 2⟩ 0x85 [zz] s

/-- R220: STA, ZeroPageX, opcode 0x95. -/
def execStaZeroPageX (zz : Byte) (s : State) : Host.Outcome State Fault Refusal :=
  emitInstr ⟨.sta, .zeroPageX, 2⟩ 0x95 [zz] s

/-- R221: STA, Absolute, opcode 0x8D. -/
def execStaAbsolute (lo hi : Byte) (s : State) : Host.Outcome State Fault Refusal :=
  emitInstr ⟨.sta, .absolute, 3⟩ 0x8D [lo, hi] s

/-- R222: STA, AbsoluteX, opcode 0x9D. -/
def execStaAbsoluteX (lo hi : Byte) (s : State) : Host.Outcome State Fault Refusal :=
  emitInstr ⟨.sta, .absoluteX, 3⟩ 0x9D [lo, hi] s

/-- R223: STA, AbsoluteY, opcode 0x99. -/
def execStaAbsoluteY (lo hi : Byte) (s : State) : Host.Outcome State Fault Refusal :=
  emitInstr ⟨.sta, .absoluteY, 3⟩ 0x99 [lo, hi] s

/-- R224: STA, IndirectX, opcode 0x81. -/
def execStaIndirectX (zz : Byte) (s : State) : Host.Outcome State Fault Refusal :=
  emitInstr ⟨.sta, .indirectX, 2⟩ 0x81 [zz] s

/-- R225: STA, IndirectY, opcode 0x91. -/
def execStaIndirectY (zz : Byte) (s : State) : Host.Outcome State Fault Refusal :=
  emitInstr ⟨.sta, .indirectY, 2⟩ 0x91 [zz] s

/-- R226: STX, ZeroPage, opcode 0x86. -/
def execStxZeroPage (zz : Byte) (s : State) : Host.Outcome State Fault Refusal :=
  emitInstr ⟨.stx, .zeroPage, 2⟩ 0x86 [zz] s

/-- R227: STX, ZeroPageY, opcode 0x96. -/
def execStxZeroPageY (zz : Byte) (s : State) : Host.Outcome State Fault Refusal :=
  emitInstr ⟨.stx, .zeroPageY, 2⟩ 0x96 [zz] s

/-- R228: STX, Absolute, opcode 0x8E. -/
def execStxAbsolute (lo hi : Byte) (s : State) : Host.Outcome State Fault Refusal :=
  emitInstr ⟨.stx, .absolute, 3⟩ 0x8E [lo, hi] s

/-- R229: STY, ZeroPage, opcode 0x84. -/
def execStyZeroPage (zz : Byte) (s : State) : Host.Outcome State Fault Refusal :=
  emitInstr ⟨.sty, .zeroPage, 2⟩ 0x84 [zz] s

/-- R230: STY, ZeroPageX, opcode 0x94. -/
def execStyZeroPageX (zz : Byte) (s : State) : Host.Outcome State Fault Refusal :=
  emitInstr ⟨.sty, .zeroPageX, 2⟩ 0x94 [zz] s

/-- R231: STY, Absolute, opcode 0x8C. -/
def execStyAbsolute (lo hi : Byte) (s : State) : Host.Outcome State Fault Refusal :=
  emitInstr ⟨.sty, .absolute, 3⟩ 0x8C [lo, hi] s

/-- R232: TAX, Implied, opcode 0xAA. -/
def execTax (s : State) : Host.Outcome State Fault Refusal :=
  emitInstr ⟨.tax, .implied, 1⟩ 0xAA [] s

/-- R233: TAY, Implied, opcode 0xA8. -/
def execTay (s : State) : Host.Outcome State Fault Refusal :=
  emitInstr ⟨.tay, .implied, 1⟩ 0xA8 [] s

/-- R234: TXA, Implied, opcode 0x8A. -/
def execTxa (s : State) : Host.Outcome State Fault Refusal :=
  emitInstr ⟨.txa, .implied, 1⟩ 0x8A [] s

/-- R235: TYA, Implied, opcode 0x98. -/
def execTya (s : State) : Host.Outcome State Fault Refusal :=
  emitInstr ⟨.tya, .implied, 1⟩ 0x98 [] s

/-- R236: TSX, Implied, opcode 0xBA. -/
def execTsx (s : State) : Host.Outcome State Fault Refusal :=
  emitInstr ⟨.tsx, .implied, 1⟩ 0xBA [] s

/-- R237: TXS, Implied, opcode 0x9A. -/
def execTxs (s : State) : Host.Outcome State Fault Refusal :=
  emitInstr ⟨.txs, .implied, 1⟩ 0x9A [] s

end Sys2Proof.Machine
end

