-- ==== Sys2Proof/Machine/RawData.lean ====
section
/-! DEFINITION. The meaning of the raw-data pseudo-instruction (R72, R76, R105, R502). -/

namespace Sys2Proof.Machine

/-- R105, R502: an undefined byte at the cursor is a data record of one byte. It is never truncated (R506). -/
def execByte (b : Byte) (s : State) : Host.Outcome State Fault Refusal := .next (emitData b s)

end Sys2Proof.Machine
end

