-- ==== Sys2Proof/Machine/ShiftIncDec.lean ====
section
/-! DEFINITION. The meanings of the family shift, rotate, increment and decrement (44_shift_incdec.md, R300 to R332).
DEC6502 executes nothing (R3): the meaning of an instruction is its decode, the record emitted and the cursor moved, or
the truncation outcome. -/

namespace Sys2Proof.Machine

/-- R301: ASL, Accumulator, opcode 0x0A. -/
def execAslAccumulator (s : State) : Host.Outcome State Fault Refusal :=
  emitInstr ⟨.asl, .accumulator, 1⟩ 0x0A [] s

/-- R302: ASL, ZeroPage, opcode 0x06. -/
def execAslZeroPage (zz : Byte) (s : State) : Host.Outcome State Fault Refusal :=
  emitInstr ⟨.asl, .zeroPage, 2⟩ 0x06 [zz] s

/-- R303: ASL, ZeroPageX, opcode 0x16. -/
def execAslZeroPageX (zz : Byte) (s : State) : Host.Outcome State Fault Refusal :=
  emitInstr ⟨.asl, .zeroPageX, 2⟩ 0x16 [zz] s

/-- R304: ASL, Absolute, opcode 0x0E. -/
def execAslAbsolute (lo hi : Byte) (s : State) : Host.Outcome State Fault Refusal :=
  emitInstr ⟨.asl, .absolute, 3⟩ 0x0E [lo, hi] s

/-- R305: ASL, AbsoluteX, opcode 0x1E. -/
def execAslAbsoluteX (lo hi : Byte) (s : State) : Host.Outcome State Fault Refusal :=
  emitInstr ⟨.asl, .absoluteX, 3⟩ 0x1E [lo, hi] s

/-- R306: LSR, Accumulator, opcode 0x4A. -/
def execLsrAccumulator (s : State) : Host.Outcome State Fault Refusal :=
  emitInstr ⟨.lsr, .accumulator, 1⟩ 0x4A [] s

/-- R307: LSR, ZeroPage, opcode 0x46. -/
def execLsrZeroPage (zz : Byte) (s : State) : Host.Outcome State Fault Refusal :=
  emitInstr ⟨.lsr, .zeroPage, 2⟩ 0x46 [zz] s

/-- R308: LSR, ZeroPageX, opcode 0x56. -/
def execLsrZeroPageX (zz : Byte) (s : State) : Host.Outcome State Fault Refusal :=
  emitInstr ⟨.lsr, .zeroPageX, 2⟩ 0x56 [zz] s

/-- R309: LSR, Absolute, opcode 0x4E. -/
def execLsrAbsolute (lo hi : Byte) (s : State) : Host.Outcome State Fault Refusal :=
  emitInstr ⟨.lsr, .absolute, 3⟩ 0x4E [lo, hi] s

/-- R310: LSR, AbsoluteX, opcode 0x5E. -/
def execLsrAbsoluteX (lo hi : Byte) (s : State) : Host.Outcome State Fault Refusal :=
  emitInstr ⟨.lsr, .absoluteX, 3⟩ 0x5E [lo, hi] s

/-- R311: ROL, Accumulator, opcode 0x2A. -/
def execRolAccumulator (s : State) : Host.Outcome State Fault Refusal :=
  emitInstr ⟨.rol, .accumulator, 1⟩ 0x2A [] s

/-- R312: ROL, ZeroPage, opcode 0x26. -/
def execRolZeroPage (zz : Byte) (s : State) : Host.Outcome State Fault Refusal :=
  emitInstr ⟨.rol, .zeroPage, 2⟩ 0x26 [zz] s

/-- R313: ROL, ZeroPageX, opcode 0x36. -/
def execRolZeroPageX (zz : Byte) (s : State) : Host.Outcome State Fault Refusal :=
  emitInstr ⟨.rol, .zeroPageX, 2⟩ 0x36 [zz] s

/-- R314: ROL, Absolute, opcode 0x2E. -/
def execRolAbsolute (lo hi : Byte) (s : State) : Host.Outcome State Fault Refusal :=
  emitInstr ⟨.rol, .absolute, 3⟩ 0x2E [lo, hi] s

/-- R315: ROL, AbsoluteX, opcode 0x3E. -/
def execRolAbsoluteX (lo hi : Byte) (s : State) : Host.Outcome State Fault Refusal :=
  emitInstr ⟨.rol, .absoluteX, 3⟩ 0x3E [lo, hi] s

/-- R316: ROR, Accumulator, opcode 0x6A. -/
def execRorAccumulator (s : State) : Host.Outcome State Fault Refusal :=
  emitInstr ⟨.ror, .accumulator, 1⟩ 0x6A [] s

/-- R317: ROR, ZeroPage, opcode 0x66. -/
def execRorZeroPage (zz : Byte) (s : State) : Host.Outcome State Fault Refusal :=
  emitInstr ⟨.ror, .zeroPage, 2⟩ 0x66 [zz] s

/-- R318: ROR, ZeroPageX, opcode 0x76. -/
def execRorZeroPageX (zz : Byte) (s : State) : Host.Outcome State Fault Refusal :=
  emitInstr ⟨.ror, .zeroPageX, 2⟩ 0x76 [zz] s

/-- R319: ROR, Absolute, opcode 0x6E. -/
def execRorAbsolute (lo hi : Byte) (s : State) : Host.Outcome State Fault Refusal :=
  emitInstr ⟨.ror, .absolute, 3⟩ 0x6E [lo, hi] s

/-- R320: ROR, AbsoluteX, opcode 0x7E. -/
def execRorAbsoluteX (lo hi : Byte) (s : State) : Host.Outcome State Fault Refusal :=
  emitInstr ⟨.ror, .absoluteX, 3⟩ 0x7E [lo, hi] s

/-- R321: INC, ZeroPage, opcode 0xE6. -/
def execIncZeroPage (zz : Byte) (s : State) : Host.Outcome State Fault Refusal :=
  emitInstr ⟨.inc, .zeroPage, 2⟩ 0xE6 [zz] s

/-- R322: INC, ZeroPageX, opcode 0xF6. -/
def execIncZeroPageX (zz : Byte) (s : State) : Host.Outcome State Fault Refusal :=
  emitInstr ⟨.inc, .zeroPageX, 2⟩ 0xF6 [zz] s

/-- R323: INC, Absolute, opcode 0xEE. -/
def execIncAbsolute (lo hi : Byte) (s : State) : Host.Outcome State Fault Refusal :=
  emitInstr ⟨.inc, .absolute, 3⟩ 0xEE [lo, hi] s

/-- R324: INC, AbsoluteX, opcode 0xFE. -/
def execIncAbsoluteX (lo hi : Byte) (s : State) : Host.Outcome State Fault Refusal :=
  emitInstr ⟨.inc, .absoluteX, 3⟩ 0xFE [lo, hi] s

/-- R325: DEC, ZeroPage, opcode 0xC6. -/
def execDecZeroPage (zz : Byte) (s : State) : Host.Outcome State Fault Refusal :=
  emitInstr ⟨.dec, .zeroPage, 2⟩ 0xC6 [zz] s

/-- R326: DEC, ZeroPageX, opcode 0xD6. -/
def execDecZeroPageX (zz : Byte) (s : State) : Host.Outcome State Fault Refusal :=
  emitInstr ⟨.dec, .zeroPageX, 2⟩ 0xD6 [zz] s

/-- R327: DEC, Absolute, opcode 0xCE. -/
def execDecAbsolute (lo hi : Byte) (s : State) : Host.Outcome State Fault Refusal :=
  emitInstr ⟨.dec, .absolute, 3⟩ 0xCE [lo, hi] s

/-- R328: DEC, AbsoluteX, opcode 0xDE. -/
def execDecAbsoluteX (lo hi : Byte) (s : State) : Host.Outcome State Fault Refusal :=
  emitInstr ⟨.dec, .absoluteX, 3⟩ 0xDE [lo, hi] s

/-- R329: INX, Implied, opcode 0xE8. -/
def execInx (s : State) : Host.Outcome State Fault Refusal :=
  emitInstr ⟨.inx, .implied, 1⟩ 0xE8 [] s

/-- R330: INY, Implied, opcode 0xC8. -/
def execIny (s : State) : Host.Outcome State Fault Refusal :=
  emitInstr ⟨.iny, .implied, 1⟩ 0xC8 [] s

/-- R331: DEX, Implied, opcode 0xCA. -/
def execDex (s : State) : Host.Outcome State Fault Refusal :=
  emitInstr ⟨.dex, .implied, 1⟩ 0xCA [] s

/-- R332: DEY, Implied, opcode 0x88. -/
def execDey (s : State) : Host.Outcome State Fault Refusal :=
  emitInstr ⟨.dey, .implied, 1⟩ 0x88 [] s

end Sys2Proof.Machine
end

