-- ==== Sys2Proof/Machine/StackFlagsMisc.lean ====
section
/-! DEFINITION. The meanings of the family stack, status-flag and no-operation instructions (46_stack_flags_misc.md, R380 to R392).
DEC6502 executes nothing (R3): the meaning of an instruction is its decode, the record emitted and the cursor moved, or
the truncation outcome. -/

namespace Sys2Proof.Machine

/-- R381: PHA, Implied, opcode 0x48. -/
def execPha (s : State) : Host.Outcome State Fault Refusal :=
  emitInstr ⟨.pha, .implied, 1⟩ 0x48 [] s

/-- R382: PHP, Implied, opcode 0x08. -/
def execPhp (s : State) : Host.Outcome State Fault Refusal :=
  emitInstr ⟨.php, .implied, 1⟩ 0x08 [] s

/-- R383: PLA, Implied, opcode 0x68. -/
def execPla (s : State) : Host.Outcome State Fault Refusal :=
  emitInstr ⟨.pla, .implied, 1⟩ 0x68 [] s

/-- R384: PLP, Implied, opcode 0x28. -/
def execPlp (s : State) : Host.Outcome State Fault Refusal :=
  emitInstr ⟨.plp, .implied, 1⟩ 0x28 [] s

/-- R385: CLC, Implied, opcode 0x18. -/
def execClc (s : State) : Host.Outcome State Fault Refusal :=
  emitInstr ⟨.clc, .implied, 1⟩ 0x18 [] s

/-- R386: SEC, Implied, opcode 0x38. -/
def execSec (s : State) : Host.Outcome State Fault Refusal :=
  emitInstr ⟨.sec, .implied, 1⟩ 0x38 [] s

/-- R387: CLI, Implied, opcode 0x58. -/
def execCli (s : State) : Host.Outcome State Fault Refusal :=
  emitInstr ⟨.cli, .implied, 1⟩ 0x58 [] s

/-- R388: SEI, Implied, opcode 0x78. -/
def execSei (s : State) : Host.Outcome State Fault Refusal :=
  emitInstr ⟨.sei, .implied, 1⟩ 0x78 [] s

/-- R389: CLV, Implied, opcode 0xB8. -/
def execClv (s : State) : Host.Outcome State Fault Refusal :=
  emitInstr ⟨.clv, .implied, 1⟩ 0xB8 [] s

/-- R390: CLD, Implied, opcode 0xD8. -/
def execCld (s : State) : Host.Outcome State Fault Refusal :=
  emitInstr ⟨.cld, .implied, 1⟩ 0xD8 [] s

/-- R391: SED, Implied, opcode 0xF8. -/
def execSed (s : State) : Host.Outcome State Fault Refusal :=
  emitInstr ⟨.sed, .implied, 1⟩ 0xF8 [] s

/-- R392: NOP, Implied, opcode 0xEA. -/
def execNop (s : State) : Host.Outcome State Fault Refusal :=
  emitInstr ⟨.nop, .implied, 1⟩ 0xEA [] s

end Sys2Proof.Machine
end

