-- ==== Sys2Proof/Machine/Dispatch.lean ====
section
/-! DEFINITION. The dispatch: one arm per constructor of Instr, each one direct call of its meaning. -/

namespace Sys2Proof.Machine

def exec (i : Instr) (s : State) : Host.Outcome State Fault Refusal :=
  match i with
  -- 42_load_store_transfer.md
  | .ldaImmediate ii => Sys2Proof.Machine.execLdaImmediate ii s
  | .ldaZeroPage zz => Sys2Proof.Machine.execLdaZeroPage zz s
  | .ldaZeroPageX zz => Sys2Proof.Machine.execLdaZeroPageX zz s
  | .ldaAbsolute lo hi => Sys2Proof.Machine.execLdaAbsolute lo hi s
  | .ldaAbsoluteX lo hi => Sys2Proof.Machine.execLdaAbsoluteX lo hi s
  | .ldaAbsoluteY lo hi => Sys2Proof.Machine.execLdaAbsoluteY lo hi s
  | .ldaIndirectX zz => Sys2Proof.Machine.execLdaIndirectX zz s
  | .ldaIndirectY zz => Sys2Proof.Machine.execLdaIndirectY zz s
  | .ldxImmediate ii => Sys2Proof.Machine.execLdxImmediate ii s
  | .ldxZeroPage zz => Sys2Proof.Machine.execLdxZeroPage zz s
  | .ldxZeroPageY zz => Sys2Proof.Machine.execLdxZeroPageY zz s
  | .ldxAbsolute lo hi => Sys2Proof.Machine.execLdxAbsolute lo hi s
  | .ldxAbsoluteY lo hi => Sys2Proof.Machine.execLdxAbsoluteY lo hi s
  | .ldyImmediate ii => Sys2Proof.Machine.execLdyImmediate ii s
  | .ldyZeroPage zz => Sys2Proof.Machine.execLdyZeroPage zz s
  | .ldyZeroPageX zz => Sys2Proof.Machine.execLdyZeroPageX zz s
  | .ldyAbsolute lo hi => Sys2Proof.Machine.execLdyAbsolute lo hi s
  | .ldyAbsoluteX lo hi => Sys2Proof.Machine.execLdyAbsoluteX lo hi s
  | .staZeroPage zz => Sys2Proof.Machine.execStaZeroPage zz s
  | .staZeroPageX zz => Sys2Proof.Machine.execStaZeroPageX zz s
  | .staAbsolute lo hi => Sys2Proof.Machine.execStaAbsolute lo hi s
  | .staAbsoluteX lo hi => Sys2Proof.Machine.execStaAbsoluteX lo hi s
  | .staAbsoluteY lo hi => Sys2Proof.Machine.execStaAbsoluteY lo hi s
  | .staIndirectX zz => Sys2Proof.Machine.execStaIndirectX zz s
  | .staIndirectY zz => Sys2Proof.Machine.execStaIndirectY zz s
  | .stxZeroPage zz => Sys2Proof.Machine.execStxZeroPage zz s
  | .stxZeroPageY zz => Sys2Proof.Machine.execStxZeroPageY zz s
  | .stxAbsolute lo hi => Sys2Proof.Machine.execStxAbsolute lo hi s
  | .styZeroPage zz => Sys2Proof.Machine.execStyZeroPage zz s
  | .styZeroPageX zz => Sys2Proof.Machine.execStyZeroPageX zz s
  | .styAbsolute lo hi => Sys2Proof.Machine.execStyAbsolute lo hi s
  | .tax => Sys2Proof.Machine.execTax s
  | .tay => Sys2Proof.Machine.execTay s
  | .txa => Sys2Proof.Machine.execTxa s
  | .tya => Sys2Proof.Machine.execTya s
  | .tsx => Sys2Proof.Machine.execTsx s
  | .txs => Sys2Proof.Machine.execTxs s
  -- 43_arith_logic.md
  | .adcImmediate ii => Sys2Proof.Machine.execAdcImmediate ii s
  | .adcZeroPage zz => Sys2Proof.Machine.execAdcZeroPage zz s
  | .adcZeroPageX zz => Sys2Proof.Machine.execAdcZeroPageX zz s
  | .adcAbsolute lo hi => Sys2Proof.Machine.execAdcAbsolute lo hi s
  | .adcAbsoluteX lo hi => Sys2Proof.Machine.execAdcAbsoluteX lo hi s
  | .adcAbsoluteY lo hi => Sys2Proof.Machine.execAdcAbsoluteY lo hi s
  | .adcIndirectX zz => Sys2Proof.Machine.execAdcIndirectX zz s
  | .adcIndirectY zz => Sys2Proof.Machine.execAdcIndirectY zz s
  | .sbcImmediate ii => Sys2Proof.Machine.execSbcImmediate ii s
  | .sbcZeroPage zz => Sys2Proof.Machine.execSbcZeroPage zz s
  | .sbcZeroPageX zz => Sys2Proof.Machine.execSbcZeroPageX zz s
  | .sbcAbsolute lo hi => Sys2Proof.Machine.execSbcAbsolute lo hi s
  | .sbcAbsoluteX lo hi => Sys2Proof.Machine.execSbcAbsoluteX lo hi s
  | .sbcAbsoluteY lo hi => Sys2Proof.Machine.execSbcAbsoluteY lo hi s
  | .sbcIndirectX zz => Sys2Proof.Machine.execSbcIndirectX zz s
  | .sbcIndirectY zz => Sys2Proof.Machine.execSbcIndirectY zz s
  | .andImmediate ii => Sys2Proof.Machine.execAndImmediate ii s
  | .andZeroPage zz => Sys2Proof.Machine.execAndZeroPage zz s
  | .andZeroPageX zz => Sys2Proof.Machine.execAndZeroPageX zz s
  | .andAbsolute lo hi => Sys2Proof.Machine.execAndAbsolute lo hi s
  | .andAbsoluteX lo hi => Sys2Proof.Machine.execAndAbsoluteX lo hi s
  | .andAbsoluteY lo hi => Sys2Proof.Machine.execAndAbsoluteY lo hi s
  | .andIndirectX zz => Sys2Proof.Machine.execAndIndirectX zz s
  | .andIndirectY zz => Sys2Proof.Machine.execAndIndirectY zz s
  | .oraImmediate ii => Sys2Proof.Machine.execOraImmediate ii s
  | .oraZeroPage zz => Sys2Proof.Machine.execOraZeroPage zz s
  | .oraZeroPageX zz => Sys2Proof.Machine.execOraZeroPageX zz s
  | .oraAbsolute lo hi => Sys2Proof.Machine.execOraAbsolute lo hi s
  | .oraAbsoluteX lo hi => Sys2Proof.Machine.execOraAbsoluteX lo hi s
  | .oraAbsoluteY lo hi => Sys2Proof.Machine.execOraAbsoluteY lo hi s
  | .oraIndirectX zz => Sys2Proof.Machine.execOraIndirectX zz s
  | .oraIndirectY zz => Sys2Proof.Machine.execOraIndirectY zz s
  | .eorImmediate ii => Sys2Proof.Machine.execEorImmediate ii s
  | .eorZeroPage zz => Sys2Proof.Machine.execEorZeroPage zz s
  | .eorZeroPageX zz => Sys2Proof.Machine.execEorZeroPageX zz s
  | .eorAbsolute lo hi => Sys2Proof.Machine.execEorAbsolute lo hi s
  | .eorAbsoluteX lo hi => Sys2Proof.Machine.execEorAbsoluteX lo hi s
  | .eorAbsoluteY lo hi => Sys2Proof.Machine.execEorAbsoluteY lo hi s
  | .eorIndirectX zz => Sys2Proof.Machine.execEorIndirectX zz s
  | .eorIndirectY zz => Sys2Proof.Machine.execEorIndirectY zz s
  | .cmpImmediate ii => Sys2Proof.Machine.execCmpImmediate ii s
  | .cmpZeroPage zz => Sys2Proof.Machine.execCmpZeroPage zz s
  | .cmpZeroPageX zz => Sys2Proof.Machine.execCmpZeroPageX zz s
  | .cmpAbsolute lo hi => Sys2Proof.Machine.execCmpAbsolute lo hi s
  | .cmpAbsoluteX lo hi => Sys2Proof.Machine.execCmpAbsoluteX lo hi s
  | .cmpAbsoluteY lo hi => Sys2Proof.Machine.execCmpAbsoluteY lo hi s
  | .cmpIndirectX zz => Sys2Proof.Machine.execCmpIndirectX zz s
  | .cmpIndirectY zz => Sys2Proof.Machine.execCmpIndirectY zz s
  | .cpxImmediate ii => Sys2Proof.Machine.execCpxImmediate ii s
  | .cpxZeroPage zz => Sys2Proof.Machine.execCpxZeroPage zz s
  | .cpxAbsolute lo hi => Sys2Proof.Machine.execCpxAbsolute lo hi s
  | .cpyImmediate ii => Sys2Proof.Machine.execCpyImmediate ii s
  | .cpyZeroPage zz => Sys2Proof.Machine.execCpyZeroPage zz s
  | .cpyAbsolute lo hi => Sys2Proof.Machine.execCpyAbsolute lo hi s
  | .bitZeroPage zz => Sys2Proof.Machine.execBitZeroPage zz s
  | .bitAbsolute lo hi => Sys2Proof.Machine.execBitAbsolute lo hi s
  -- 44_shift_incdec.md
  | .aslAccumulator => Sys2Proof.Machine.execAslAccumulator s
  | .aslZeroPage zz => Sys2Proof.Machine.execAslZeroPage zz s
  | .aslZeroPageX zz => Sys2Proof.Machine.execAslZeroPageX zz s
  | .aslAbsolute lo hi => Sys2Proof.Machine.execAslAbsolute lo hi s
  | .aslAbsoluteX lo hi => Sys2Proof.Machine.execAslAbsoluteX lo hi s
  | .lsrAccumulator => Sys2Proof.Machine.execLsrAccumulator s
  | .lsrZeroPage zz => Sys2Proof.Machine.execLsrZeroPage zz s
  | .lsrZeroPageX zz => Sys2Proof.Machine.execLsrZeroPageX zz s
  | .lsrAbsolute lo hi => Sys2Proof.Machine.execLsrAbsolute lo hi s
  | .lsrAbsoluteX lo hi => Sys2Proof.Machine.execLsrAbsoluteX lo hi s
  | .rolAccumulator => Sys2Proof.Machine.execRolAccumulator s
  | .rolZeroPage zz => Sys2Proof.Machine.execRolZeroPage zz s
  | .rolZeroPageX zz => Sys2Proof.Machine.execRolZeroPageX zz s
  | .rolAbsolute lo hi => Sys2Proof.Machine.execRolAbsolute lo hi s
  | .rolAbsoluteX lo hi => Sys2Proof.Machine.execRolAbsoluteX lo hi s
  | .rorAccumulator => Sys2Proof.Machine.execRorAccumulator s
  | .rorZeroPage zz => Sys2Proof.Machine.execRorZeroPage zz s
  | .rorZeroPageX zz => Sys2Proof.Machine.execRorZeroPageX zz s
  | .rorAbsolute lo hi => Sys2Proof.Machine.execRorAbsolute lo hi s
  | .rorAbsoluteX lo hi => Sys2Proof.Machine.execRorAbsoluteX lo hi s
  | .incZeroPage zz => Sys2Proof.Machine.execIncZeroPage zz s
  | .incZeroPageX zz => Sys2Proof.Machine.execIncZeroPageX zz s
  | .incAbsolute lo hi => Sys2Proof.Machine.execIncAbsolute lo hi s
  | .incAbsoluteX lo hi => Sys2Proof.Machine.execIncAbsoluteX lo hi s
  | .decZeroPage zz => Sys2Proof.Machine.execDecZeroPage zz s
  | .decZeroPageX zz => Sys2Proof.Machine.execDecZeroPageX zz s
  | .decAbsolute lo hi => Sys2Proof.Machine.execDecAbsolute lo hi s
  | .decAbsoluteX lo hi => Sys2Proof.Machine.execDecAbsoluteX lo hi s
  | .inx => Sys2Proof.Machine.execInx s
  | .iny => Sys2Proof.Machine.execIny s
  | .dex => Sys2Proof.Machine.execDex s
  | .dey => Sys2Proof.Machine.execDey s
  -- 45_control_transfer.md
  | .bpl rr => Sys2Proof.Machine.execBpl rr s
  | .bmi rr => Sys2Proof.Machine.execBmi rr s
  | .bvc rr => Sys2Proof.Machine.execBvc rr s
  | .bvs rr => Sys2Proof.Machine.execBvs rr s
  | .bcc rr => Sys2Proof.Machine.execBcc rr s
  | .bcs rr => Sys2Proof.Machine.execBcs rr s
  | .bne rr => Sys2Proof.Machine.execBne rr s
  | .beq rr => Sys2Proof.Machine.execBeq rr s
  | .jmpAbsolute lo hi => Sys2Proof.Machine.execJmpAbsolute lo hi s
  | .jmpIndirect lo hi => Sys2Proof.Machine.execJmpIndirect lo hi s
  | .jsrAbsolute lo hi => Sys2Proof.Machine.execJsrAbsolute lo hi s
  | .rts => Sys2Proof.Machine.execRts s
  | .rti => Sys2Proof.Machine.execRti s
  | .brk => Sys2Proof.Machine.execBrk s
  -- 46_stack_flags_misc.md
  | .pha => Sys2Proof.Machine.execPha s
  | .php => Sys2Proof.Machine.execPhp s
  | .pla => Sys2Proof.Machine.execPla s
  | .plp => Sys2Proof.Machine.execPlp s
  | .clc => Sys2Proof.Machine.execClc s
  | .sec => Sys2Proof.Machine.execSec s
  | .cli => Sys2Proof.Machine.execCli s
  | .sei => Sys2Proof.Machine.execSei s
  | .clv => Sys2Proof.Machine.execClv s
  | .cld => Sys2Proof.Machine.execCld s
  | .sed => Sys2Proof.Machine.execSed s
  | .nop => Sys2Proof.Machine.execNop s
  -- 40_decode_unit.md R105
  | .byte b => Sys2Proof.Machine.execByte b s

end Sys2Proof.Machine
end

