-- ==== Sys2Proof/Machine/Run.lean ====
section
/-! DEFINITION. STEP over the instructions' meanings, the host's operations, and the run as a sequence (R106, R109). -/

namespace Sys2Proof.Machine

/-- The bytes a STEP may decode: at most three, none at or past `N` (R47). -/
def fetchBytes (s : State) : List Byte := s.buf.readBytes s.cur 3

/-- STEP (R102, R106, R506): it is enabled in RUNNING only; the end test comes first, then the byte at the cursor is
decoded and its instruction runs, or the truncation outcome is taken. -/
def stepRun (s : State) : Host.Outcome State Fault Refusal :=
  if s.status ≠ .running then .fault .stepNotEnabled
  else if s.endOff ≤ s.cur then .next s.finish
  else
    match decode (fetchBytes s) with
    | .ok (i, _) => exec i s
    | .error (.truncated op need) => .next (truncate op need s)
    | .error .noBytes => .fault .readPastBuffer

/-- The host's placing of a whole image: the header is skipped and the buffer holds the program bytes (R9, R553). -/
def loadImage (image : List Byte) : HostOp := .load (image.drop Config.headerBytes)

/-- One operation of the host. -/
def hostOp (op : HostOp) (s : State) : Host.Outcome State Fault Refusal :=
  match op with
  | .load bs => hostLoad bs s
  | .start st en base rc => .next (hostStart st en base rc s)
  | .step => stepRun s
  | .reset => .next (hostReset s)

/-- The host's next operation, STEP when nothing is pending (log 3). -/
def hostNext (s : State) : Host.Outcome State Fault Refusal :=
  match s.inbox with
  | [] => stepRun s
  | op :: rest => hostOp op { s with inbox := rest }

/-- Up to `fuel` STEPs while STATUS is RUNNING (R109). -/
def runLoop : Nat → State → State
  | 0, s => s
  | fuel + 1, s =>
    if s.status = .running then
      match stepRun s with
      | .next s' => runLoop fuel s'
      | .fault _ => s
      | .refused _ => s
    else s

/-- `decodeRange` (R109): START, then STEPs while STATUS is RUNNING, `min(e, N) - s + 1` of them at most (R110). It is
applied to a state whose buffer is the host's; the run's records follow the ones already in the output stream. -/
def decodeRange (st en base : Nat) (rc : Option Bool) (s : State) : State :=
  let s1 := hostStart st en base rc s
  runLoop (s1.endOff - s1.cur + 1) s1

/-- The observation of a run (R518): its records, final status and final ERRINFO. -/
def observeRun (st en base : Nat) (rc : Option Bool) (s : State) : List Record × Status × ErrInfo :=
  let s' := decodeRange st en base rc s
  (s'.out.drop s.out.length, s'.status, s'.errInfo)

/-- The host places an instruction's bytes where the next STEP decodes. During a run they go to the cursor, which is put
below END. Otherwise they are loaded as the whole buffer and a START at the conventional base begins a run (log 4). -/
def placeInstr (bs : List Byte) (s : State) : State :=
  if s.status = .running then
    { s with buf := (s.buf.grow (s.cur + bs.length)).writeBytes s.cur bs, endOff := max s.endOff (s.cur + 1),
             inbox := [] }
  else hostStart 0 bs.length Config.conventionalBase none { s with buf := Memory.load bs, inbox := [] }

end Sys2Proof.Machine
end

