-- ==== Sys2Proof/Machine/Step.lean ====
section
/-! DEFINITION. One step of the machine: the host's next operation on the block. -/

namespace Sys2Proof.Machine

/-- One step. With nothing pending from the host it is the block's STEP (R106). -/
def step (s : State) : Host.Outcome State Fault Refusal := hostNext s

/-- `s` with an instruction of the opcode table where the very next step decodes it (log 4). -/
def State.withFetchWord (s : State) (nbits w : Nat) : State := placeInstr (wordBytes nbits w) s

end Sys2Proof.Machine
end

