-- ==== Sys2Proof/Machine/DecodeUnit.lean ====
section
/-! DEFINITION. DECODE as the spec's own table-driven pseudocode: the pure `decodeOne` (R103) over OPROM, and the STEP
that applies it (R106). `stepRun` (Run.lean) runs the instructions' own meanings; that the two agree is a claim. -/

namespace Sys2Proof.Machine

/-- What `decodeOne` returns (R103). -/
inductive Decoded where
  | emit (r : Record) (consumed : Nat)
  | trunc (off : Nat) (opcode : Byte) (need avail : Nat)
deriving DecidableEq, Repr

/-- `decodeOne(BUF, cur, base)` (R103). Its precondition is `cur < N`; where that fails there is no result. -/
def decodeOne (m : Memory) (cur : Nat) (base : Word) : Option Decoded :=
  match m.read cur with
  | none => none
  | some op =>
    match lookup op with
    | none => some (.emit (dataRecord op (addressOf base cur)) 1)
    | some e =>
      if m.size < cur + e.length then some (.trunc cur op e.length (m.size - cur))
      else some (.emit (instrRecord e (m.readBytes cur e.length) (addressOf base cur)) e.length)

/-- What STEP does with the result of `decodeOne` (R106). -/
def State.applyDecoded (s : State) : Decoded → State
  | .emit r n => s.emit r n
  | .trunc off op need avail =>
    if s.ctrl = 1 then s.raise .truncated (.truncated off op need avail)
    else s.emit (dataRecord op (addressOf s.base s.cur)) 1

/-- STEP as R106 writes it. -/
def stepByTable (s : State) : Host.Outcome State Fault Refusal :=
  if s.status ≠ .running then .fault .stepNotEnabled
  else if s.endOff ≤ s.cur then .next s.finish
  else
    match decodeOne s.buf s.cur s.base with
    | some d => .next (s.applyDecoded d)
    | none => .fault .readPastBuffer

end Sys2Proof.Machine
end

