-- ==== Sys2Proof/Machine/Norm.lean ====
section
/-! DEFINITION. NORM, the semantic normalization of rendered text (R450 to R456). -/

namespace Sys2Proof.Machine

/-- NORMSET (R451), in the order of the list there. -/
def normSet : List Mnemonic :=
  [.adc, .and, .asl, .bit, .cmp, .cpx, .cpy, .dec, .eor, .inc, .jmp, .jsr, .lda, .ldx, .ldy, .lsr, .ora, .rol, .ror,
   .sbc, .sta, .stx, .sty]

/-- The spellings of NORMSET. -/
def normTexts : List Text := normSet.map mnemonicText

/-- What may follow the four uppercase hexadecimal digits (R452). -/
def normSuffixes : List Text := [[], [',', 'X'], [',', 'Y']]

/-- The placeholder that replaces the digits (R452). -/
def wildcard : Text := ['?', '?', '?', '?']

/-- `normalize(t)` (R452), on every text. -/
def normalize (t : Text) : Text :=
  match t with
  | m1 :: m2 :: m3 :: sp :: dl :: d1 :: d2 :: d3 :: d4 :: sfx =>
    if normTexts.contains [m1, m2, m3] && sp == ' ' && dl == '$' && [d1, d2, d3, d4].all hexDigits.contains &&
      normSuffixes.contains sfx
    then m1 :: m2 :: m3 :: ' ' :: '$' :: (wildcard ++ sfx)
    else t
  | t => t

/-- Two texts compare equal after NORM (R456). -/
def equalAfterNorm (t u : Text) : Bool := normalize t == normalize u

end Sys2Proof.Machine
end

