-- ==== Sys2Proof/Safety.lean ====
section
/-! DEFINITION. What holds of every state the machine reaches, in the terms claims use. -/

namespace Sys2Proof.Machine

/-- A record is one the block emits (R27, R31): an `Instr` record is its entry's record, with as many bytes as the entry's
length; a `Data` record is the data record of one byte. -/
def Record.ok (r : Record) : Bool :=
  match r.kind, r.rawBytes with
  | .instr, op :: rest =>
    match lookup op with
    | some e => decide (r.rawBytes.length = e.length ∧ r = instrRecord e (op :: rest) r.address)
    | none => false
  | .data, [b] => decide (r = dataRecord b r.address)
  | _, _ => false

/-- ERRINFO belongs to STATUS (R21, R26, R503): a truncation names the cursor, the opcode's own length and too few bytes;
outside the two error statuses it is `none`. -/
def State.errInfoFits (s : State) : Bool :=
  match s.status, s.errInfo with
  | .idle, .none => true
  | .running, .none => true
  | .done, .none => true
  | .truncated, .truncated off op need avail =>
    decide (off = s.cur ∧ avail < need ∧ (lookup op).map OpcodeEntry.length = some need)
  | .invalidRange, .invalidRange _ => true
  | _, _ => false

/-- The invariant of the machine. -/
abbrev State.Inv (s : State) : Prop :=
  s.buf.wf = true ∧
  (s.status = .running → s.written = true ∧ s.cur ≤ s.buf.size ∧ s.endOff ≤ s.buf.size) ∧
  (s.status = .idle → s.written = false) ∧
  (s.status = .done ∨ s.status = .truncated → s.written = true) ∧
  s.errInfoFits = true ∧
  ∀ r ∈ s.out, r.ok = true

end Sys2Proof.Machine
end

