-- ==== Sys2Proof/Certificates/Slice0/Obligations.lean ====
section
/-! DEFINITION. The obligations: what the numbered rules of the spec say of the model. -/

namespace Sys2Proof.Claims

open Sys2Proof.Machine

/-- The target address of the cursor, `(x[BASE] + cur) mod 2^16` (R42). -/
def cursorAddress (s : State) : Word := BitVec.ofNat 16 (s.base.toNat + s.cur)

/-- A 16-bit operand from its two bytes (R44). -/
def littleEndian (lo hi : Byte) : Word := BitVec.ofNat 16 (lo.toNat + 256 * hi.toNat)

/-- The displacement of a branch, -128 to 127 (R140). -/
def displacement (rr : Byte) : Int := if 128 ≤ rr.toNat then (rr.toNat : Int) - 256 else rr.toNat

/-- The target of a branch at `a`: `(a + 2 + disp(rr)) mod 2^16` (R141). -/
def branchTarget (a : Word) (rr : Byte) : Word := BitVec.ofInt 16 (a.toNat + 2 + displacement rr)

/-- The data record of a byte at an address (R105). -/
def byteRecord (b : Byte) (a : Word) : Record :=
  { kind := .data, address := a, rawBytes := [b], mnemonic := ".byte".toList, mode := .implied, operandValue := none,
    renderedText := ".byte $".toList ++ hex2 b }

/-- Rows of R70 with 0, 1 or 2 operand bytes: the instruction, the opcode and the mnemonic. -/
abbrev Rows0 := List (Instr × Byte × String)
abbrev Rows1 := List ((Byte → Instr) × Byte × String)
abbrev Rows2 := List ((Byte → Byte → Instr) × Byte × String)

/-- OPROM gives the opcode `op` the mnemonic `mn`, the mode `mode` and the length `n`, and `i` encodes as `bytes`. -/
def HasEntry (i : Instr) (op : Byte) (bytes : List Byte) (mn : Text) (mode : Mode) (n : Nat) : Prop :=
  encode i = bytes ∧ (lookup op).map (fun e => (mnemonicText e.mnemonic, e.mode, e.length)) = some (mn, mode, n)

/-- What a family rule says of an instruction of 1 byte: its encoding and its entry; and at any cursor below `N` its
record is emitted and the cursor advances by 1. Nothing else changes. -/
def DecodesOneByte (i : Instr) (op : Byte) (mn : Text) (mode : Mode) : Prop :=
  HasEntry i op [op] mn mode 1 ∧
  ∀ s : State, s.cur < s.buf.size →
    exec i s = .next { s with
      cur := s.cur + 1
      out := s.out ++ [{ kind := .instr, address := cursorAddress s, rawBytes := [op], mnemonic := mn, mode := mode,
                         operandValue := none, renderedText := mn }] }

/-- What a family rule says of an instruction of 2 or 3 bytes: its encoding and its entry. Where it fits in the buffer
its record is emitted and the cursor advances by its length. Where it does not, it is truncated: with `RC = 1` STATUS
and ERRINFO alone change, with `RC = 0` the opcode byte is emitted as data and the cursor advances by 1. Nothing else
changes. -/
def Decodes (i : Instr) (op : Byte) (args : List Byte) (mn : Text) (mode : Mode) (v : Option Word)
    (text : Word → Text) : Prop :=
  HasEntry i op (op :: args) mn mode (args.length + 1) ∧
  ∀ s : State, s.cur < s.buf.size →
    (s.cur + (args.length + 1) ≤ s.buf.size →
      exec i s = .next { s with
        cur := s.cur + (args.length + 1)
        out := s.out ++ [{ kind := .instr, address := cursorAddress s, rawBytes := op :: args, mnemonic := mn,
                           mode := mode, operandValue := v, renderedText := text (cursorAddress s) }] }) ∧
    (s.buf.size < s.cur + (args.length + 1) → s.ctrl = 1 →
      exec i s = .next { s with
        status := .truncated
        errInfo := .truncated s.cur op (args.length + 1) (s.buf.size - s.cur) }) ∧
    (s.buf.size < s.cur + (args.length + 1) → s.ctrl = 0 →
      exec i s = .next { s with cur := s.cur + 1, out := s.out ++ [byteRecord op (cursorAddress s)] })

/-- The records `rs` decode the bytes of `m` from offset `c` to offset `c'`, with no gap and no overlap, each at its
own address. -/
def Contiguous (m : Memory) (base : Word) : Nat → List Record → Nat → Prop
  | c, [], c' => c = c'
  | c, r :: rs, c' =>
    1 ≤ r.rawBytes.length ∧ r.rawBytes = m.readBytes c r.rawBytes.length ∧
      r.address = BitVec.ofNat 16 (base.toNat + c) ∧ Contiguous m base (c + r.rawBytes.length) rs c'

/-- The offsets of the records `rs` of a run that stands at offset `c` (R113). -/
def offsetsOf : Nat → List Record → List Nat
  | _, [] => []
  | c, r :: rs => c :: offsetsOf (c + r.rawBytes.length) rs

/-- The spellings of NORMSET (R451). -/
def normMnemonics : List Text :=
  ["ADC", "AND", "ASL", "BIT", "CMP", "CPX", "CPY", "DEC", "EOR", "INC", "JMP", "JSR", "LDA", "LDX", "LDY", "LSR",
   "ORA", "ROL", "ROR", "SBC", "STA", "STX", "STY"].map String.toList

/-- The digits of base 16, uppercase (R130). -/
def digits16 : Text :=
  ['0', '1', '2', '3', '4', '5', '6', '7', '8', '9', 'A', 'B', 'C', 'D', 'E', 'F']

/-- The text has the form that NORM rewrites (R452). -/
def HasNormForm (t m ds sfx : Text) : Prop :=
  m ∈ normMnemonics ∧ ds.length = 4 ∧ (∀ d ∈ ds, d ∈ digits16) ∧
    sfx ∈ ["", ",X", ",Y"].map String.toList ∧ t = m ++ " $".toList ++ ds ++ sfx

/-- The suffix of a mode that NORM rewrites; `none` for every other mode (R452, R453). -/
def normSuffix : Mode → Option Text
  | .absolute => some []
  | .absoluteX => some ",X".toList
  | .absoluteY => some ",Y".toList
  | _ => none

/-- A START's range is valid: it starts below `N` and does not end before it starts (R100). -/
def ValidRange (s : State) (st en : Nat) : Prop := st < s.buf.size ∧ st ≤ en

/-- The machine's next step is a STEP of a run in progress: the host has no other operation pending (log 3). -/
def MayStep (s : State) : Prop := s.inbox = [] ∧ s.status = .running

end Sys2Proof.Claims

open Sys2Proof Sys2Proof.Machine Sys2Proof.Claims

/-- The register transfers and INX, INY, DEX, DEY (R232, R233, R234, R235, R236, R237, R329, R330, R331, R332): the
record and the cursor. -/
def Obligations.TransfersAndStepsOfXYDecode : Prop :=
  ∀ p ∈ ([(.tax, 0xAA, "TAX"), (.tay, 0xA8, "TAY"), (.txa, 0x8A, "TXA"), (.tya, 0x98, "TYA"), (.tsx, 0xBA, "TSX"),
       (.txs, 0x9A, "TXS"), (.inx, 0xE8, "INX"), (.iny, 0xC8, "INY"), (.dex, 0xCA, "DEX"), (.dey, 0x88, "DEY")] : Rows0),
    DecodesOneByte p.1 p.2.1 p.2.2.toList .implied

/-- RTS, RTI and BRK (R352, R353, R354): the record and the cursor. -/
def Obligations.ReturnsAndBreakDecode : Prop :=
  ∀ p ∈ ([(.rts, 0x60, "RTS"), (.rti, 0x40, "RTI"), (.brk, 0x00, "BRK")] : Rows0),
    DecodesOneByte p.1 p.2.1 p.2.2.toList .implied

/-- The stack, status-flag and no-operation instructions (R381, R382, R383, R384, R385, R386, R387, R388, R389, R390,
R391, R392): the record and the cursor. -/
def Obligations.StackFlagAndNopInstructionsDecode : Prop :=
  ∀ p ∈ ([(.pha, 0x48, "PHA"), (.php, 0x08, "PHP"), (.pla, 0x68, "PLA"), (.plp, 0x28, "PLP"), (.clc, 0x18, "CLC"),
       (.sec, 0x38, "SEC"), (.cli, 0x58, "CLI"), (.sei, 0x78, "SEI"), (.clv, 0xB8, "CLV"), (.cld, 0xD8, "CLD"),
       (.sed, 0xF8, "SED"), (.nop, 0xEA, "NOP")] : Rows0),
    DecodesOneByte p.1 p.2.1 p.2.2.toList .implied

/-- The Accumulator forms (R301, R306, R311, R316): the record and the cursor. -/
def Obligations.AccumulatorShiftsDecode : Prop :=
  ∀ p ∈ ([(.aslAccumulator, 0x0A, "ASL"), (.lsrAccumulator, 0x4A, "LSR"), (.rolAccumulator, 0x2A, "ROL"),
       (.rorAccumulator, 0x6A, "ROR")] : Rows0),
    DecodesOneByte p.1 p.2.1 p.2.2.toList .accumulator

/-- The Immediate forms (R201, R209, R214, R241, R249, R257, R265, R273, R281, R289, R292): the record, the cursor and
the truncation outcome. -/
def Obligations.ImmediateFormsDecode : Prop :=
  ∀ ii : Byte, ∀ p ∈ (
      [(.ldaImmediate, 0xA9, "LDA"), (.ldxImmediate, 0xA2, "LDX"), (.ldyImmediate, 0xA0, "LDY"),
       (.adcImmediate, 0x69, "ADC"), (.sbcImmediate, 0xE9, "SBC"), (.andImmediate, 0x29, "AND"),
       (.oraImmediate, 0x09, "ORA"), (.eorImmediate, 0x49, "EOR"), (.cmpImmediate, 0xC9, "CMP"),
       (.cpxImmediate, 0xE0, "CPX"), (.cpyImmediate, 0xC0, "CPY")] : Rows1),
    Decodes (p.1 ii) p.2.1 [ii] p.2.2.toList .immediate (some (ii.setWidth 16)) fun _ =>
      p.2.2.toList ++ " #$".toList ++ hex2 ii

/-- The ZeroPage loads, stores, shifts, INC and DEC (R202, R210, R215, R219, R226, R229, R302, R307, R312, R317, R321,
R325): the record, the cursor and the truncation outcome. -/
def Obligations.ZeroPageLoadsStoresShiftsDecode : Prop :=
  ∀ zz : Byte, ∀ p ∈ (
      [(.ldaZeroPage, 0xA5, "LDA"), (.ldxZeroPage, 0xA6, "LDX"), (.ldyZeroPage, 0xA4, "LDY"),
       (.staZeroPage, 0x85, "STA"), (.stxZeroPage, 0x86, "STX"), (.styZeroPage, 0x84, "STY"),
       (.aslZeroPage, 0x06, "ASL"), (.lsrZeroPage, 0x46, "LSR"), (.rolZeroPage, 0x26, "ROL"),
       (.rorZeroPage, 0x66, "ROR"), (.incZeroPage, 0xE6, "INC"), (.decZeroPage, 0xC6, "DEC")] : Rows1),
    Decodes (p.1 zz) p.2.1 [zz] p.2.2.toList .zeroPage (some (zz.setWidth 16)) fun _ =>
      p.2.2.toList ++ " $".toList ++ hex2 zz

/-- The ZeroPage arithmetic, logical, compare and bit-test forms (R242, R250, R258, R266, R274, R282, R290, R293,
R295): the record, the cursor and the truncation outcome. -/
def Obligations.ZeroPageArithmeticDecodes : Prop :=
  ∀ zz : Byte, ∀ p ∈ (
      [(.adcZeroPage, 0x65, "ADC"), (.sbcZeroPage, 0xE5, "SBC"), (.andZeroPage, 0x25, "AND"),
       (.oraZeroPage, 0x05, "ORA"), (.eorZeroPage, 0x45, "EOR"), (.cmpZeroPage, 0xC5, "CMP"),
       (.cpxZeroPage, 0xE4, "CPX"), (.cpyZeroPage, 0xC4, "CPY"), (.bitZeroPage, 0x24, "BIT")] : Rows1),
    Decodes (p.1 zz) p.2.1 [zz] p.2.2.toList .zeroPage (some (zz.setWidth 16)) fun _ =>
      p.2.2.toList ++ " $".toList ++ hex2 zz

/-- The ZeroPageX loads, stores, arithmetic, logical and compare forms (R203, R216, R220, R230, R243, R251, R259,
R267, R275, R283): the record, the cursor and the truncation outcome. -/
def Obligations.ZeroPageXLoadsStoresArithmeticDecode : Prop :=
  ∀ zz : Byte, ∀ p ∈ (
      [(.ldaZeroPageX, 0xB5, "LDA"), (.ldyZeroPageX, 0xB4, "LDY"), (.staZeroPageX, 0x95, "STA"),
       (.styZeroPageX, 0x94, "STY"), (.adcZeroPageX, 0x75, "ADC"), (.sbcZeroPageX, 0xF5, "SBC"),
       (.andZeroPageX, 0x35, "AND"), (.oraZeroPageX, 0x15, "ORA"), (.eorZeroPageX, 0x55, "EOR"),
       (.cmpZeroPageX, 0xD5, "CMP")] : Rows1),
    Decodes (p.1 zz) p.2.1 [zz] p.2.2.toList .zeroPageX (some (zz.setWidth 16)) fun _ =>
      p.2.2.toList ++ " $".toList ++ hex2 zz ++ ",X".toList

/-- The ZeroPageX shifts, INC and DEC (R303, R308, R313, R318, R322, R326): the record, the cursor and the truncation
outcome. -/
def Obligations.ZeroPageXShiftsDecode : Prop :=
  ∀ zz : Byte, ∀ p ∈ (
      [(.aslZeroPageX, 0x16, "ASL"), (.lsrZeroPageX, 0x56, "LSR"), (.rolZeroPageX, 0x36, "ROL"),
       (.rorZeroPageX, 0x76, "ROR"), (.incZeroPageX, 0xF6, "INC"), (.decZeroPageX, 0xD6, "DEC")] : Rows1),
    Decodes (p.1 zz) p.2.1 [zz] p.2.2.toList .zeroPageX (some (zz.setWidth 16)) fun _ =>
      p.2.2.toList ++ " $".toList ++ hex2 zz ++ ",X".toList

/-- The two ZeroPageY forms (R211, R227): the record, the cursor and the truncation outcome. -/
def Obligations.ZeroPageYFormsDecode : Prop :=
  ∀ zz : Byte, ∀ p ∈ (
      [(.ldxZeroPageY, 0xB6, "LDX"), (.stxZeroPageY, 0x96, "STX")] : Rows1),
    Decodes (p.1 zz) p.2.1 [zz] p.2.2.toList .zeroPageY (some (zz.setWidth 16)) fun _ =>
      p.2.2.toList ++ " $".toList ++ hex2 zz ++ ",Y".toList

/-- The Absolute loads, stores, JMP and JSR (R204, R212, R217, R221, R228, R231, R349, R351): the record, the cursor
and the truncation outcome. -/
def Obligations.AbsoluteLoadsStoresJumpsDecode : Prop :=
  ∀ lo hi : Byte, ∀ p ∈ (
      [(.ldaAbsolute, 0xAD, "LDA"), (.ldxAbsolute, 0xAE, "LDX"), (.ldyAbsolute, 0xAC, "LDY"),
       (.staAbsolute, 0x8D, "STA"), (.stxAbsolute, 0x8E, "STX"), (.styAbsolute, 0x8C, "STY"),
       (.jmpAbsolute, 0x4C, "JMP"), (.jsrAbsolute, 0x20, "JSR")] : Rows2),
    Decodes (p.1 lo hi) p.2.1 [lo, hi] p.2.2.toList .absolute (some (littleEndian lo hi)) fun _ =>
      p.2.2.toList ++ " $".toList ++ hex4 (littleEndian lo hi)

/-- The Absolute arithmetic, logical, compare and bit-test forms (R244, R252, R260, R268, R276, R284, R291, R294,
R296): the record, the cursor and the truncation outcome. -/
def Obligations.AbsoluteArithmeticDecodes : Prop :=
  ∀ lo hi : Byte, ∀ p ∈ (
      [(.adcAbsolute, 0x6D, "ADC"), (.sbcAbsolute, 0xED, "SBC"), (.andAbsolute, 0x2D, "AND"),
       (.oraAbsolute, 0x0D, "ORA"), (.eorAbsolute, 0x4D, "EOR"), (.cmpAbsolute, 0xCD, "CMP"),
       (.cpxAbsolute, 0xEC, "CPX"), (.cpyAbsolute, 0xCC, "CPY"), (.bitAbsolute, 0x2C, "BIT")] : Rows2),
    Decodes (p.1 lo hi) p.2.1 [lo, hi] p.2.2.toList .absolute (some (littleEndian lo hi)) fun _ =>
      p.2.2.toList ++ " $".toList ++ hex4 (littleEndian lo hi)

/-- The Absolute shifts, INC and DEC (R304, R309, R314, R319, R323, R327): the record, the cursor and the truncation
outcome. -/
def Obligations.AbsoluteShiftsDecode : Prop :=
  ∀ lo hi : Byte, ∀ p ∈ (
      [(.aslAbsolute, 0x0E, "ASL"), (.lsrAbsolute, 0x4E, "LSR"), (.rolAbsolute, 0x2E, "ROL"),
       (.rorAbsolute, 0x6E, "ROR"), (.incAbsolute, 0xEE, "INC"), (.decAbsolute, 0xCE, "DEC")] : Rows2),
    Decodes (p.1 lo hi) p.2.1 [lo, hi] p.2.2.toList .absolute (some (littleEndian lo hi)) fun _ =>
      p.2.2.toList ++ " $".toList ++ hex4 (littleEndian lo hi)

/-- The AbsoluteX loads, store, arithmetic, logical and compare forms (R205, R218, R222, R245, R253, R261, R269, R277,
R285): the record, the cursor and the truncation outcome. -/
def Obligations.AbsoluteXLoadsStoresArithmeticDecode : Prop :=
  ∀ lo hi : Byte, ∀ p ∈ (
      [(.ldaAbsoluteX, 0xBD, "LDA"), (.ldyAbsoluteX, 0xBC, "LDY"), (.staAbsoluteX, 0x9D, "STA"),
       (.adcAbsoluteX, 0x7D, "ADC"), (.sbcAbsoluteX, 0xFD, "SBC"), (.andAbsoluteX, 0x3D, "AND"),
       (.oraAbsoluteX, 0x1D, "ORA"), (.eorAbsoluteX, 0x5D, "EOR"), (.cmpAbsoluteX, 0xDD, "CMP")] : Rows2),
    Decodes (p.1 lo hi) p.2.1 [lo, hi] p.2.2.toList .absoluteX (some (littleEndian lo hi)) fun _ =>
      p.2.2.toList ++ " $".toList ++ hex4 (littleEndian lo hi) ++ ",X".toList

/-- The AbsoluteX shifts, INC and DEC (R305, R310, R315, R320, R324, R328): the record, the cursor and the truncation
outcome. -/
def Obligations.AbsoluteXShiftsDecode : Prop :=
  ∀ lo hi : Byte, ∀ p ∈ (
      [(.aslAbsoluteX, 0x1E, "ASL"), (.lsrAbsoluteX, 0x5E, "LSR"), (.rolAbsoluteX, 0x3E, "ROL"),
       (.rorAbsoluteX, 0x7E, "ROR"), (.incAbsoluteX, 0xFE, "INC"), (.decAbsoluteX, 0xDE, "DEC")] : Rows2),
    Decodes (p.1 lo hi) p.2.1 [lo, hi] p.2.2.toList .absoluteX (some (littleEndian lo hi)) fun _ =>
      p.2.2.toList ++ " $".toList ++ hex4 (littleEndian lo hi) ++ ",X".toList

/-- The AbsoluteY forms (R206, R213, R223, R246, R254, R262, R270, R278, R286): the record, the cursor and the
truncation outcome. -/
def Obligations.AbsoluteYFormsDecode : Prop :=
  ∀ lo hi : Byte, ∀ p ∈ (
      [(.ldaAbsoluteY, 0xB9, "LDA"), (.ldxAbsoluteY, 0xBE, "LDX"), (.staAbsoluteY, 0x99, "STA"),
       (.adcAbsoluteY, 0x79, "ADC"), (.sbcAbsoluteY, 0xF9, "SBC"), (.andAbsoluteY, 0x39, "AND"),
       (.oraAbsoluteY, 0x19, "ORA"), (.eorAbsoluteY, 0x59, "EOR"), (.cmpAbsoluteY, 0xD9, "CMP")] : Rows2),
    Decodes (p.1 lo hi) p.2.1 [lo, hi] p.2.2.toList .absoluteY (some (littleEndian lo hi)) fun _ =>
      p.2.2.toList ++ " $".toList ++ hex4 (littleEndian lo hi) ++ ",Y".toList

/-- JMP Indirect (R350): the record, the cursor and the truncation outcome. -/
def Obligations.JumpIndirectDecodes : Prop :=
  ∀ lo hi : Byte, ∀ p ∈ (
      [(.jmpIndirect, 0x6C, "JMP")] : Rows2),
    Decodes (p.1 lo hi) p.2.1 [lo, hi] p.2.2.toList .indirect (some (littleEndian lo hi)) fun _ =>
      p.2.2.toList ++ " ($".toList ++ hex4 (littleEndian lo hi) ++ ")".toList

/-- The IndirectX forms (R207, R224, R247, R255, R263, R271, R279, R287): the record, the cursor and the truncation
outcome. -/
def Obligations.IndirectXFormsDecode : Prop :=
  ∀ zz : Byte, ∀ p ∈ (
      [(.ldaIndirectX, 0xA1, "LDA"), (.staIndirectX, 0x81, "STA"), (.adcIndirectX, 0x61, "ADC"),
       (.sbcIndirectX, 0xE1, "SBC"), (.andIndirectX, 0x21, "AND"), (.oraIndirectX, 0x01, "ORA"),
       (.eorIndirectX, 0x41, "EOR"), (.cmpIndirectX, 0xC1, "CMP")] : Rows1),
    Decodes (p.1 zz) p.2.1 [zz] p.2.2.toList .indirectX (some (zz.setWidth 16)) fun _ =>
      p.2.2.toList ++ " ($".toList ++ hex2 zz ++ ",X)".toList

/-- The IndirectY forms (R208, R225, R248, R256, R264, R272, R280, R288): the record, the cursor and the truncation
outcome. -/
def Obligations.IndirectYFormsDecode : Prop :=
  ∀ zz : Byte, ∀ p ∈ (
      [(.ldaIndirectY, 0xB1, "LDA"), (.staIndirectY, 0x91, "STA"), (.adcIndirectY, 0x71, "ADC"),
       (.sbcIndirectY, 0xF1, "SBC"), (.andIndirectY, 0x31, "AND"), (.oraIndirectY, 0x11, "ORA"),
       (.eorIndirectY, 0x51, "EOR"), (.cmpIndirectY, 0xD1, "CMP")] : Rows1),
    Decodes (p.1 zz) p.2.1 [zz] p.2.2.toList .indirectY (some (zz.setWidth 16)) fun _ =>
      p.2.2.toList ++ " ($".toList ++ hex2 zz ++ "),Y".toList

/-- The eight relative branches (R341, R342, R343, R344, R345, R346, R347, R348): the record, the cursor and the
truncation outcome. -/
def Obligations.BranchesDecode : Prop :=
  ∀ rr : Byte, ∀ p ∈ (
      [(.bpl, 0x10, "BPL"), (.bmi, 0x30, "BMI"), (.bvc, 0x50, "BVC"), (.bvs, 0x70, "BVS"), (.bcc, 0x90, "BCC"),
       (.bcs, 0xB0, "BCS"), (.bne, 0xD0, "BNE"), (.beq, 0xF0, "BEQ")] : Rows1),
    Decodes (p.1 rr) p.2.1 [rr] p.2.2.toList .relative (some (rr.setWidth 16)) fun a =>
      p.2.2.toList ++ " $".toList ++ hex4 (branchTarget a rr)

/-- R105, R502: the STEP on an undefined byte emits its data record and advances CUR by 1; STATUS stays RUNNING. -/
def Obligations.UnmappedByteBecomesDataRecord : Prop :=
  ∀ (s : State) (b : Byte), s.status = .running → s.cur < s.endOff → s.buf.read s.cur = some b →
    b ∈ undefinedBytes →
    lookup b = none ∧
      stepRun s = .next { s with cur := s.cur + 1, out := s.out ++ [byteRecord b (cursorAddress s)] }

/-- The meaning of the raw-data pseudo-instruction of an undefined byte (R105). -/
def Obligations.RawDataInstructionDecodes : Prop :=
  ∀ (s : State) (b : Byte), (Instr.byte b).wf = true →
    exec (.byte b) s = .next { s with cur := s.cur + 1, out := s.out ++ [byteRecord b (cursorAddress s)] }

/-- A STEP below END runs the instruction that the bytes at the cursor decode to. -/
def Obligations.StepRunsDecodedInstruction : Prop :=
  ∀ (s : State) (i : Instr) (rest : List Byte), MayStep s → s.cur < s.endOff →
    decode (s.buf.readBytes s.cur 3) = .ok (i, rest) → step s = exec i s

/-- A STEP below END, where the buffer holds the encoding of a well-formed instruction at the cursor, runs it. -/
def Obligations.StepRunsEncodedInstruction : Prop :=
  ∀ (s : State) (i : Instr), i.wf = true → MayStep s → s.cur < s.endOff →
    s.buf.readBytes s.cur (encode i).length = encode i → step s = exec i s

/-- Words written out from the encodings of R70 decode to their instructions. -/
def Obligations.SpecWordsDecode : Prop :=
  decode [0b10101001, 0b00000101] = .ok (.ldaImmediate 5, []) ∧
  decode [0b01101101, 0b00110100, 0b00010010] = .ok (.adcAbsolute 0x34 0x12, []) ∧
  decode [0b00001010, 0b01000100] = .ok (.aslAccumulator, [0x44]) ∧
  decode [0b01001100, 0b00000000, 0b10010000] = .ok (.jmpAbsolute 0x00 0x90, []) ∧
  decode [0b11101010] = .ok (.nop, []) ∧
  decode [0b11111111] = .ok (.byte 0xFF, []) ∧
  decode [0b10111101, 0b00000000] = .error (.truncated 0xBD 3)

/-- Decoding the encoding of a well-formed instruction gives it back, with the bytes after it. -/
def Obligations.DecodeInvertsEncode : Prop :=
  ∀ (i : Instr) (rest : List Byte), i.wf = true → decode (encode i ++ rest) = .ok (i, rest)

/-- What decodes to an instruction is that instruction's encoding, and the instruction is well formed. -/
def Obligations.EncodeInvertsDecode : Prop :=
  ∀ (bytes rest : List Byte) (i : Instr), decode bytes = .ok (i, rest) → bytes = encode i ++ rest ∧ i.wf = true

/-- The instructions' own meanings make the STEP that R106's table-driven pseudocode gives, in every state. -/
def Obligations.StepIsTableDrivenStep : Prop :=
  ∀ s : State, s.inbox = [] → step s = stepByTable s

/-- Every step, the host's operations among them, keeps the invariant. -/
def Obligations.StepKeepsInvariant : Prop :=
  ∀ s s' : State, s.Inv → step s = .next s' → s'.Inv

/-- The state after reset meets the invariant. -/
def Obligations.ResetMeetsInvariant : Prop := State.reset.Inv

/-- R550: reset makes the block IDLE with no error and no value in CUR, END, BASE and CTRL, whatever run was in
progress, and leaves the host's buffer and output stream. OPROM is a constant of the model. -/
def Obligations.ResetClearsTheBlock : Prop :=
  ∀ s : State, (hostReset s).status = .idle ∧ (hostReset s).errInfo = .none ∧
    (∀ r ∈ [Reg.cur, Reg.endOff, Reg.base, Reg.ctrl], heldValue r (hostReset s) = none) ∧
    (hostReset s).buf = s.buf ∧ (hostReset s).out = s.out

/-- R100, R505: START in any status refuses a range that starts at or past `N`, then one that ends before it starts,
changing STATUS and ERRINFO alone; else it writes every register of the run. A run over an empty range is empty. -/
def Obligations.StartFollowsItsRule : Prop :=
  ∀ (s : State) (st en base : Nat) (rc : Option Bool),
    (s.buf.size ≤ st →
      hostStart st en base rc s = { s with status := .invalidRange, errInfo := .invalidRange .startPastEnd }) ∧
    (st < s.buf.size → en < st →
      hostStart st en base rc s = { s with status := .invalidRange, errInfo := .invalidRange .endBeforeStart }) ∧
    (st < s.buf.size → st ≤ en →
      hostStart st en base rc s = { s with
        status := .running, cur := st, endOff := min en s.buf.size, base := BitVec.ofNat 16 (base % 2 ^ 16),
        ctrl := if rc.getD true then 1 else 0, written := true, errInfo := .none }) ∧
    (st < s.buf.size → st = en →
      (decodeRange st en base rc s).status = .done ∧ (decodeRange st en base rc s).out = s.out)

/-- Outside RUNNING there is no STEP (R102), which the model shows as the fault stepNotEnabled (log 8); of the host's other
operations, placing a buffer changes no register and no record. -/
def Obligations.StepNotEnabledOutsideRunning : Prop :=
  ∀ s : State, s.status ≠ .running →
    stepRun s = .fault .stepNotEnabled ∧ ∀ bs, hostLoad bs s = .next { s with buf := Memory.load bs }

/-- R506: the checks of a STEP in their order: end of range, undefined byte, truncation, instruction. -/
def Obligations.StepChecksInOrder : Prop :=
  ∀ s : State, s.status = .running →
    (s.endOff ≤ s.cur → stepRun s = .next { s with status := .done }) ∧
    ∀ b, s.cur < s.endOff → s.buf.read s.cur = some b →
      (lookup b = none →
        stepRun s = .next { s with cur := s.cur + 1, out := s.out ++ [byteRecord b (cursorAddress s)] }) ∧
      ∀ e, lookup b = some e →
        (s.buf.size < s.cur + e.length → s.ctrl = 1 →
          stepRun s = .next { s with
            status := .truncated, errInfo := .truncated s.cur b e.length (s.buf.size - s.cur) }) ∧
        (s.buf.size < s.cur + e.length → s.ctrl = 0 →
          stepRun s = .next { s with cur := s.cur + 1, out := s.out ++ [byteRecord b (cursorAddress s)] }) ∧
        (s.cur + e.length ≤ s.buf.size →
          stepRun s = .next { s with
            cur := s.cur + e.length
            out := s.out ++ [instrRecord e (s.buf.readBytes s.cur e.length) (cursorAddress s)] })

/-- R107: an instruction that starts below END and fits in the buffer is emitted whole even past END, and the next
STEP ends the run. -/
def Obligations.StraddlingInstructionEmittedWhole : Prop :=
  ∀ (s : State) (b : Byte) (e : OpcodeEntry), s.status = .running → s.cur < s.endOff →
    s.buf.read s.cur = some b → lookup b = some e → s.cur + e.length ≤ s.buf.size → s.endOff < s.cur + e.length →
    ∃ t, stepRun s = .next t ∧ t.cur = s.cur + e.length ∧
      (∃ r, t.out = s.out ++ [r] ∧ r.rawBytes = s.buf.readBytes s.cur e.length ∧ r.rawBytes.length = e.length) ∧
      stepRun t = .next { t with status := .done }

/-- What a step of the machine is: with nothing pending from the host it is STEP (the model's choice, log 3), else it
is the host's first pending operation, which is taken off the list. -/
def Obligations.StepServesTheHost : Prop :=
  ∀ s : State, (s.inbox = [] → step s = stepRun s) ∧
    ∀ (op : HostOp) (rest : List HostOp), s.inbox = op :: rest →
      step s = match op with
        | .load bs => hostLoad bs { s with inbox := rest }
        | .start st en base rc => .next (hostStart st en base rc { s with inbox := rest })
        | .step => stepRun { s with inbox := rest }
        | .reset => .next (hostReset { s with inbox := rest })

/-- The decoder reports truncation exactly for a defined opcode that runs past `N`; so a 2-byte instruction only at `N
- 1`, a 3-byte one only at `N - 1` or `N - 2`, a 1-byte one never (R104). -/
def Obligations.TruncationOnlyAtBufferEnd : Prop :=
  ∀ (m : Memory) (cur : Nat) (b : Byte), m.read cur = some b →
    (∀ op need, decode (m.readBytes cur 3) = .error (.truncated op need) ↔
      op = b ∧ m.size < cur + need ∧ (lookup b).map OpcodeEntry.length = some need) ∧
    ∀ e, lookup b = some e → m.size < cur + e.length →
      (e.length = 2 ∧ cur + 1 = m.size) ∨ (e.length = 3 ∧ (cur + 1 = m.size ∨ cur + 2 = m.size))

/-- R110: a STEP that emits advances the cursor by 1 to 3; so a run over a valid range ends, in at most `min(e, N) - s
+ 1` STEPs and with at most `min(e, N) - s` records. -/
def Obligations.RunTerminates : Prop :=
  (∀ s s' : State, stepRun s = .next s' → s'.out ≠ s.out →
    s.cur < s'.cur ∧ s'.cur ≤ s.cur + 3 ∧ s.cur < s.endOff) ∧
  ∀ (s : State) (st en base : Nat) (rc : Option Bool), ValidRange s st en →
    ∃ t, runLoop (min en s.buf.size - st + 1) (hostStart st en base rc s) = t ∧
      decodeRange st en base rc s = t ∧ (t.status = .done ∨ t.status = .truncated) ∧
      t.out.length ≤ s.out.length + (min en s.buf.size - st)

/-- R111: what a run shows is a function of the buffer and START's arguments alone, whatever state it starts from. -/
def Obligations.RunDependsOnArguments : Prop :=
  ∀ (s1 s2 : State) (st en base : Nat) (rc : Option Bool), s1.buf = s2.buf →
    observeRun st en base rc s1 = observeRun st en base rc s2

/-- R113: the records of a run cover the bytes from the start offset to the final cursor exactly once, in order. -/
def Obligations.RecordsCoverTheRange : Prop :=
  ∀ (s : State) (st en base : Nat) (rc : Option Bool), ValidRange s st en →
    ∃ rs, (decodeRange st en base rc s).out = s.out ++ rs ∧
      Contiguous s.buf (BitVec.ofNat 16 base) st rs (decodeRange st en base rc s).cur

/-- The record addresses of a run are strictly increasing when no decoded offset passes the top of the address space
(R43, R31). -/
def Obligations.AddressesStrictlyIncrease : Prop :=
  ∀ (s : State) (st en base : Nat) (rc : Option Bool), ValidRange s st en →
    ∃ rs, (decodeRange st en base rc s).out = s.out ++ rs ∧
      ((∀ o ∈ offsetsOf st rs, base % 2 ^ 16 + o ≤ 0xFFFF) →
        rs.Pairwise fun r r' => r.address.toNat < r'.address.toNat)

/-- With `RC = 0` a run never ends with TRUNCATED (R106). -/
def Obligations.RcZeroRunEndsDone : Prop :=
  ∀ (s : State) (st en base : Nat), ValidRange s st en →
    (decodeRange st en base (some false) s).status = .done

/-- With `RC = 1` a truncated opcode ends the run (R500, R503): ERRINFO names it and its offset, STATUS and ERRINFO alone
change, so the records emitted so far stay, and STEP is no longer enabled (R102), which the model shows as the fault
stepNotEnabled (log 8). With `RC = 0` the opcode byte becomes a data record (R108). -/
def Obligations.TruncationIsPrecise : Prop :=
  ∀ (s : State) (b : Byte) (e : OpcodeEntry), s.status = .running → s.cur < s.endOff →
    s.buf.read s.cur = some b → lookup b = some e → s.buf.size < s.cur + e.length →
    (s.ctrl = 1 → ∃ t, stepRun s = .next t ∧
      t = { s with status := .truncated, errInfo := .truncated s.cur b e.length (s.buf.size - s.cur) } ∧
      stepRun t = .fault .stepNotEnabled) ∧
    (s.ctrl = 0 → stepRun s = .next { s with cur := s.cur + 1, out := s.out ++ [byteRecord b (cursorAddress s)] })

/-- A STEP changes CUR, STATUS, ERRINFO and the output stream alone: every other register and every byte of the buffer
is as before, and the cursor never moves back (R22, R34, R48). -/
def Obligations.StepFrame : Prop :=
  ∀ s s' : State, s.inbox = [] → step s = .next s' →
    s'.endOff = s.endOff ∧ s'.base = s.base ∧ s'.ctrl = s.ctrl ∧ s'.written = s.written ∧ s'.inbox = s.inbox ∧
      s'.buf.size = s.buf.size ∧ (∀ a, s'.buf.read a = s.buf.read a) ∧ s.cur ≤ s'.cur ∧
      (s'.out = s.out ∨ ∃ r, s'.out = s.out ++ [r])

/-- No step, of the block or of the host, changes or drops a record already emitted (R27, R115). -/
def Obligations.OutputStreamIsAppendOnly : Prop :=
  ∀ s s' : State, step s = .next s' → ∃ rs, s'.out = s.out ++ rs ∧ rs.length ≤ 1

/-- A run in progress always has its next STEP: the decoder faults on no byte value, no address and no operand value
(R501), and the STEP leaves the run going, done or truncated. -/
def Obligations.RunningMachineAlwaysSteps : Prop :=
  ∀ s : State, s.Inv → MayStep s →
    ∃ t, step s = .next t ∧ (t.status = .running ∨ t.status = .done ∨ t.status = .truncated)

/-- Two runs over adjacent ranges, the second started at the first one's final cursor, are one run (R57, R556). -/
def Obligations.AdjacentRunsCompose : Prop :=
  ∀ (s : State) (st mid en base : Nat) (rc : Option Bool), ValidRange s st mid → mid ≤ en →
    (decodeRange st mid base rc s).status = .done → (decodeRange st mid base rc s).cur < s.buf.size →
    (decodeRange st mid base rc s).cur ≤ en →
    decodeRange (decodeRange st mid base rc s).cur en base rc (decodeRange st mid base rc s) =
      decodeRange st en base rc s

/-- R140, R141: the resolved target is the address plus 2 plus the signed displacement, modulo 2^16. -/
def Obligations.BranchTargetIsSigned : Prop :=
  ∀ (addr : Word) (rr : Byte),
    (-128 ≤ displacement rr ∧ displacement rr ≤ 127) ∧ (disp (rr.setWidth 16)).toInt = displacement rr ∧
      ((target addr (rr.setWidth 16)).toNat : Int) = (addr.toNat + 2 + displacement rr) % 2 ^ 16

/-- Displacement 0xFE is a branch to itself, 0x00 to the next instruction; and equal bytes at different addresses
render different text (R144). -/
def Obligations.BranchTextDependsOnAddress : Prop :=
  (∀ addr : Word, target addr 0xFE = addr ∧ target addr 0x00 = addr + 2) ∧
  ∀ (a a' v : Word), fmt .relative (some v) a = fmt .relative (some v) a' → a = a'

/-- R130: `hex2` and `hex4` are the value's base-16 digits, uppercase and zero-padded. -/
def Obligations.HexTextIsBase16 : Prop :=
  (∀ v : Byte, hex2 v = [v.toNat / 16, v.toNat % 16].map fun d => digits16.getD d 'x') ∧
  ∀ v : Word, hex4 v = [v.toNat / 4096, v.toNat / 256 % 16, v.toNat / 16 % 16, v.toNat % 16].map
    fun d => digits16.getD d 'x'

/-- R44: a 2-byte operand is little-endian: of its bytes in buffer order the first is the low one. -/
def Obligations.TwoByteOperandIsLittleEndian : Prop :=
  ∀ (mode : Mode) (op b1 b2 : Byte), operandBytes mode = 2 →
    (operandValue mode [op, b1, b2]).map BitVec.toNat = some (b1.toNat + 256 * b2.toNat)

/-- R454: NORM is idempotent, on every text. -/
def Obligations.NormalizeIsIdempotent : Prop :=
  ∀ t : Text, Machine.normalize (Machine.normalize t) = Machine.normalize t

/-- R452: a text of the form NORM matches has its digits replaced and its suffix kept; every other text is unchanged.
-/
def Obligations.NormalizeRewritesItsForm : Prop :=
  (∀ t m ds sfx : Text, HasNormForm t m ds sfx → Machine.normalize t = m ++ " $????".toList ++ sfx) ∧
  ∀ t : Text, (∀ m ds sfx : Text, ¬ HasNormForm t m ds sfx) → Machine.normalize t = t

/-- Of the records of the opcode table NORM rewrites exactly the Absolute, AbsoluteX and AbsoluteY ones, and no data
record (R451, R453). -/
def Obligations.NormalizeOfRecordText : Prop :=
  (∀ (b : Byte) (e : OpcodeEntry) (raw : List Byte) (a : Word), lookup b = some e → raw.length = e.length →
    Machine.normalize (instrRecord e raw a).renderedText =
      match normSuffix e.mode with
      | some sfx => mnemonicText e.mnemonic ++ " $????".toList ++ sfx
      | none => (instrRecord e raw a).renderedText) ∧
  ∀ (b : Byte) (a : Word), Machine.normalize (dataRecord b a).renderedText = (dataRecord b a).renderedText

/-- Two instruction records compare equal after NORM exactly when their texts are equal, or they are of one mnemonic
and one of the modes that NORM rewrites (R456). -/
def Obligations.EqualAfterNormIffSameUpToAddress : Prop :=
  ∀ (b b' : Byte) (e e' : OpcodeEntry) (raw raw' : List Byte) (a a' : Word), lookup b = some e →
    lookup b' = some e' →
    raw.length = e.length → raw'.length = e'.length →
    (equalAfterNorm (instrRecord e raw a).renderedText (instrRecord e' raw' a').renderedText = true ↔
      (instrRecord e raw a).renderedText = (instrRecord e' raw' a').renderedText ∨
        (e.mnemonic = e'.mnemonic ∧ e.mode = e'.mode ∧ (normSuffix e.mode).isSome = true))

/-- The text of a data record is no instruction's text, and its mnemonic no instruction's mnemonic (R76). -/
def Obligations.DataTextIsNoInstructionText : Prop :=
  ∀ (b u : Byte) (e : OpcodeEntry) (raw : List Byte) (a a' : Word), lookup b = some e →
    (instrRecord e raw a).renderedText ≠ (dataRecord u a').renderedText ∧
      (instrRecord e raw a).mnemonic ≠ (dataRecord u a').mnemonic

/-- A host read answers for every register in every state, with what the register holds (R20, R511). STATUS and ERRINFO
always hold a value; CUR, END, BASE and CTRL hold none after reset until a START is accepted (R40). What they read as before
that is the model's choice (log 1), and this statement rests on no value of it. -/
def Obligations.HostReadsRegisters : Prop :=
  (∀ s : State, readReg .status s = .code s.status.code ∧ readReg .errInfo s = .info s.errInfo ∧
    readReg .cur s = .offset s.cur ∧ readReg .endOff s = .offset s.endOff ∧ readReg .base s = .address s.base ∧
    readReg .ctrl s = .bit s.ctrl) ∧
  (∀ (s : State) (r : Reg), (r ∈ [Reg.status, Reg.errInfo] ∨ s.written = true → heldValue r s = some (readReg r s)) ∧
    (r ∈ [Reg.cur, Reg.endOff, Reg.base, Reg.ctrl] → s.written = false → heldValue r s = none)) ∧
  ∀ s s' : State, step s = .next s' → s.written = false → s'.written = true →
    ∃ st en base rc rest, s.inbox = .start st en base rc :: rest ∧ ValidRange s st en

/-- The host's buffer changes between runs only: during a run the model gives no run (R50); between runs the bytes it
places read back, and nothing else changes. -/
def Obligations.BufferChangesBetweenRunsOnly : Prop :=
  ∀ (s : State) (bs : List Byte),
    (s.status = .running → hostLoad bs s = .refused .bufferChangedDuringRun) ∧
    (s.status ≠ .running → ∃ t, hostLoad bs s = .next t ∧ t = { s with buf := t.buf } ∧
      t.buf.size = bs.length ∧ ∀ k, t.buf.read k = bs[k]?)

/-- R30: an entry's length is 1 plus its mode's operand bytes, and `len(b)` is that length, or 1 for an undefined
byte. -/
def Obligations.EntryLengthFollowsMode : Prop :=
  ∀ b : Byte, (∀ e, lookup b = some e → e.length = 1 + operandBytes e.mode ∧ lengthOf b = e.length) ∧
    (lookup b = none → lengthOf b = 1)

/-- R36: an OPROM word reads as the entry it was packed from, and as no entry where there is none. -/
def Obligations.RomWordsReadBack : Prop :=
  (∀ (mn : Mnemonic) (md : Mode) (n : Nat), 1 ≤ n → n ≤ 3 →
    unpackWord (packEntry (some ⟨mn, md, n⟩)) = some ⟨mn, md, n⟩) ∧
  ∀ b : Byte, unpackWord (romWord b) = lookup b
end

