-- ==== Sys2Proof/Laws/Decode.lean ====
section
/-! SUPPORT. What a row of the opcode table gives, said once for all rows, and what the decoder does with it. -/

namespace Sys2Proof

/-- What every row of the table keeps: its length is its format's, and its instruction is well formed and encodes as the
row's opcode and the operand bytes. -/
def OpRow.Sound (r : OpRow) : Prop :=
  match r.form with
  | .f1 i => r.length = 1 ∧ encode i = [r.opcode] ∧ i.wf = true
  | .f2 g => r.length = 2 ∧ ∀ b1, encode (g b1) = [r.opcode, b1] ∧ (g b1).wf = true
  | .f3 g => r.length = 3 ∧ ∀ lo hi, encode (g lo hi) = [r.opcode, lo, hi] ∧ (g lo hi).wf = true

/-- A list of rows, row by row. -/
theorem cons_rows {P : OpRow → Prop} {r : OpRow} {l : List OpRow} (h : P r) (t : ∀ x ∈ l, P x) :
    ∀ x ∈ r :: l, P x := List.forall_mem_cons.mpr ⟨h, t⟩

theorem nil_rows {P : OpRow → Prop} : ∀ x ∈ ([] : List OpRow), P x := List.forall_mem_nil P

/-- A property of every row of the table, from the property of each of its lists. -/
theorem forall_opTable {P : OpRow → Prop}
    (h0 : ∀ r ∈ opRows0, P r)
    (h1 : ∀ r ∈ opRows1, P r)
    (h2 : ∀ r ∈ opRows2, P r)
    (h3 : ∀ r ∈ opRows3, P r)
    (h4 : ∀ r ∈ opRows4, P r)
    (h5 : ∀ r ∈ opRows5, P r)
    (h6 : ∀ r ∈ opRows6, P r)
    (h7 : ∀ r ∈ opRows7, P r)
    (h8 : ∀ r ∈ opRows8, P r)
    (h9 : ∀ r ∈ opRows9, P r)
    (hA : ∀ r ∈ opRowsA, P r)
    (hB : ∀ r ∈ opRowsB, P r)
    (hC : ∀ r ∈ opRowsC, P r)
    (hD : ∀ r ∈ opRowsD, P r)
    (hE : ∀ r ∈ opRowsE, P r)
    (hF : ∀ r ∈ opRowsF, P r) : ∀ r ∈ opTable, P r := by
  intro r hr
  simp only [opTable, opGrid, List.flatten_cons, List.flatten_nil, List.append_nil, List.mem_append] at hr
  rcases hr with h | h | h | h | h | h | h | h | h | h | h | h | h | h | h | h
  · exact h0 r h
  · exact h1 r h
  · exact h2 r h
  · exact h3 r h
  · exact h4 r h
  · exact h5 r h
  · exact h6 r h
  · exact h7 r h
  · exact h8 r h
  · exact h9 r h
  · exact hA r h
  · exact hB r h
  · exact hC r h
  · exact hD r h
  · exact hE r h
  · exact hF r h

theorem sound_f1 {op : Byte} {mn : Mnemonic} {md : Mode} {i : Instr} (h : encode i = [op]) (hw : i.wf = true) :
    OpRow.Sound ⟨op, mn, md, 1, .f1 i⟩ := ⟨rfl, h, hw⟩

theorem sound_f2 {op : Byte} {mn : Mnemonic} {md : Mode} {g : Byte → Instr} (h : ∀ b, encode (g b) = [op, b])
    (hw : ∀ b, (g b).wf = true) : OpRow.Sound ⟨op, mn, md, 2, .f2 g⟩ := ⟨rfl, fun b => ⟨h b, hw b⟩⟩

theorem sound_f3 {op : Byte} {mn : Mnemonic} {md : Mode} {g : Byte → Byte → Instr}
    (h : ∀ lo hi, encode (g lo hi) = [op, lo, hi]) (hw : ∀ lo hi, (g lo hi).wf = true) :
    OpRow.Sound ⟨op, mn, md, 3, .f3 g⟩ := ⟨rfl, fun lo hi => ⟨h lo hi, hw lo hi⟩⟩

theorem sound_rows0 : ∀ r ∈ opRows0, OpRow.Sound r :=
  cons_rows (sound_f1 rfl rfl) <| cons_rows (sound_f2 (fun _ => rfl) fun _ => rfl) <|
  cons_rows (sound_f2 (fun _ => rfl) fun _ => rfl) <| cons_rows (sound_f2 (fun _ => rfl) fun _ => rfl) <|
  cons_rows (sound_f1 rfl rfl) <| cons_rows (sound_f2 (fun _ => rfl) fun _ => rfl) <|
  cons_rows (sound_f1 rfl rfl) <| cons_rows (sound_f3 (fun _ _ => rfl) fun _ _ => rfl) <|
  cons_rows (sound_f3 (fun _ _ => rfl) fun _ _ => rfl) <| nil_rows

theorem sound_rows1 : ∀ r ∈ opRows1, OpRow.Sound r :=
  cons_rows (sound_f2 (fun _ => rfl) fun _ => rfl) <| cons_rows (sound_f2 (fun _ => rfl) fun _ => rfl) <|
  cons_rows (sound_f2 (fun _ => rfl) fun _ => rfl) <| cons_rows (sound_f2 (fun _ => rfl) fun _ => rfl) <|
  cons_rows (sound_f1 rfl rfl) <| cons_rows (sound_f3 (fun _ _ => rfl) fun _ _ => rfl) <|
  cons_rows (sound_f3 (fun _ _ => rfl) fun _ _ => rfl) <| cons_rows (sound_f3 (fun _ _ => rfl) fun _ _ => rfl) <| nil_rows

theorem sound_rows2 : ∀ r ∈ opRows2, OpRow.Sound r :=
  cons_rows (sound_f3 (fun _ _ => rfl) fun _ _ => rfl) <| cons_rows (sound_f2 (fun _ => rfl) fun _ => rfl) <|
  cons_rows (sound_f2 (fun _ => rfl) fun _ => rfl) <| cons_rows (sound_f2 (fun _ => rfl) fun _ => rfl) <|
  cons_rows (sound_f2 (fun _ => rfl) fun _ => rfl) <| cons_rows (sound_f1 rfl rfl) <|
  cons_rows (sound_f2 (fun _ => rfl) fun _ => rfl) <| cons_rows (sound_f1 rfl rfl) <|
  cons_rows (sound_f3 (fun _ _ => rfl) fun _ _ => rfl) <| cons_rows (sound_f3 (fun _ _ => rfl) fun _ _ => rfl) <|
  cons_rows (sound_f3 (fun _ _ => rfl) fun _ _ => rfl) <| nil_rows

theorem sound_rows3 : ∀ r ∈ opRows3, OpRow.Sound r :=
  cons_rows (sound_f2 (fun _ => rfl) fun _ => rfl) <| cons_rows (sound_f2 (fun _ => rfl) fun _ => rfl) <|
  cons_rows (sound_f2 (fun _ => rfl) fun _ => rfl) <| cons_rows (sound_f2 (fun _ => rfl) fun _ => rfl) <|
  cons_rows (sound_f1 rfl rfl) <| cons_rows (sound_f3 (fun _ _ => rfl) fun _ _ => rfl) <|
  cons_rows (sound_f3 (fun _ _ => rfl) fun _ _ => rfl) <| cons_rows (sound_f3 (fun _ _ => rfl) fun _ _ => rfl) <| nil_rows

theorem sound_rows4 : ∀ r ∈ opRows4, OpRow.Sound r :=
  cons_rows (sound_f1 rfl rfl) <| cons_rows (sound_f2 (fun _ => rfl) fun _ => rfl) <|
  cons_rows (sound_f2 (fun _ => rfl) fun _ => rfl) <| cons_rows (sound_f2 (fun _ => rfl) fun _ => rfl) <|
  cons_rows (sound_f1 rfl rfl) <| cons_rows (sound_f2 (fun _ => rfl) fun _ => rfl) <|
  cons_rows (sound_f1 rfl rfl) <| cons_rows (sound_f3 (fun _ _ => rfl) fun _ _ => rfl) <|
  cons_rows (sound_f3 (fun _ _ => rfl) fun _ _ => rfl) <| cons_rows (sound_f3 (fun _ _ => rfl) fun _ _ => rfl) <| nil_rows

theorem sound_rows5 : ∀ r ∈ opRows5, OpRow.Sound r :=
  cons_rows (sound_f2 (fun _ => rfl) fun _ => rfl) <| cons_rows (sound_f2 (fun _ => rfl) fun _ => rfl) <|
  cons_rows (sound_f2 (fun _ => rfl) fun _ => rfl) <| cons_rows (sound_f2 (fun _ => rfl) fun _ => rfl) <|
  cons_rows (sound_f1 rfl rfl) <| cons_rows (sound_f3 (fun _ _ => rfl) fun _ _ => rfl) <|
  cons_rows (sound_f3 (fun _ _ => rfl) fun _ _ => rfl) <| cons_rows (sound_f3 (fun _ _ => rfl) fun _ _ => rfl) <| nil_rows

theorem sound_rows6 : ∀ r ∈ opRows6, OpRow.Sound r :=
  cons_rows (sound_f1 rfl rfl) <| cons_rows (sound_f2 (fun _ => rfl) fun _ => rfl) <|
  cons_rows (sound_f2 (fun _ => rfl) fun _ => rfl) <| cons_rows (sound_f2 (fun _ => rfl) fun _ => rfl) <|
  cons_rows (sound_f1 rfl rfl) <| cons_rows (sound_f2 (fun _ => rfl) fun _ => rfl) <|
  cons_rows (sound_f1 rfl rfl) <| cons_rows (sound_f3 (fun _ _ => rfl) fun _ _ => rfl) <|
  cons_rows (sound_f3 (fun _ _ => rfl) fun _ _ => rfl) <| cons_rows (sound_f3 (fun _ _ => rfl) fun _ _ => rfl) <| nil_rows

theorem sound_rows7 : ∀ r ∈ opRows7, OpRow.Sound r :=
  cons_rows (sound_f2 (fun _ => rfl) fun _ => rfl) <| cons_rows (sound_f2 (fun _ => rfl) fun _ => rfl) <|
  cons_rows (sound_f2 (fun _ => rfl) fun _ => rfl) <| cons_rows (sound_f2 (fun _ => rfl) fun _ => rfl) <|
  cons_rows (sound_f1 rfl rfl) <| cons_rows (sound_f3 (fun _ _ => rfl) fun _ _ => rfl) <|
  cons_rows (sound_f3 (fun _ _ => rfl) fun _ _ => rfl) <| cons_rows (sound_f3 (fun _ _ => rfl) fun _ _ => rfl) <| nil_rows

theorem sound_rows8 : ∀ r ∈ opRows8, OpRow.Sound r :=
  cons_rows (sound_f2 (fun _ => rfl) fun _ => rfl) <| cons_rows (sound_f2 (fun _ => rfl) fun _ => rfl) <|
  cons_rows (sound_f2 (fun _ => rfl) fun _ => rfl) <| cons_rows (sound_f2 (fun _ => rfl) fun _ => rfl) <|
  cons_rows (sound_f1 rfl rfl) <| cons_rows (sound_f1 rfl rfl) <|
  cons_rows (sound_f3 (fun _ _ => rfl) fun _ _ => rfl) <| cons_rows (sound_f3 (fun _ _ => rfl) fun _ _ => rfl) <|
  cons_rows (sound_f3 (fun _ _ => rfl) fun _ _ => rfl) <| nil_rows

theorem sound_rows9 : ∀ r ∈ opRows9, OpRow.Sound r :=
  cons_rows (sound_f2 (fun _ => rfl) fun _ => rfl) <| cons_rows (sound_f2 (fun _ => rfl) fun _ => rfl) <|
  cons_rows (sound_f2 (fun _ => rfl) fun _ => rfl) <| cons_rows (sound_f2 (fun _ => rfl) fun _ => rfl) <|
  cons_rows (sound_f2 (fun _ => rfl) fun _ => rfl) <| cons_rows (sound_f1 rfl rfl) <|
  cons_rows (sound_f3 (fun _ _ => rfl) fun _ _ => rfl) <| cons_rows (sound_f1 rfl rfl) <|
  cons_rows (sound_f3 (fun _ _ => rfl) fun _ _ => rfl) <| nil_rows

theorem sound_rowsA : ∀ r ∈ opRowsA, OpRow.Sound r :=
  cons_rows (sound_f2 (fun _ => rfl) fun _ => rfl) <| cons_rows (sound_f2 (fun _ => rfl) fun _ => rfl) <|
  cons_rows (sound_f2 (fun _ => rfl) fun _ => rfl) <| cons_rows (sound_f2 (fun _ => rfl) fun _ => rfl) <|
  cons_rows (sound_f2 (fun _ => rfl) fun _ => rfl) <| cons_rows (sound_f2 (fun _ => rfl) fun _ => rfl) <|
  cons_rows (sound_f1 rfl rfl) <| cons_rows (sound_f2 (fun _ => rfl) fun _ => rfl) <|
  cons_rows (sound_f1 rfl rfl) <| cons_rows (sound_f3 (fun _ _ => rfl) fun _ _ => rfl) <|
  cons_rows (sound_f3 (fun _ _ => rfl) fun _ _ => rfl) <| cons_rows (sound_f3 (fun _ _ => rfl) fun _ _ => rfl) <| nil_rows

theorem sound_rowsB : ∀ r ∈ opRowsB, OpRow.Sound r :=
  cons_rows (sound_f2 (fun _ => rfl) fun _ => rfl) <| cons_rows (sound_f2 (fun _ => rfl) fun _ => rfl) <|
  cons_rows (sound_f2 (fun _ => rfl) fun _ => rfl) <| cons_rows (sound_f2 (fun _ => rfl) fun _ => rfl) <|
  cons_rows (sound_f2 (fun _ => rfl) fun _ => rfl) <| cons_rows (sound_f1 rfl rfl) <|
  cons_rows (sound_f3 (fun _ _ => rfl) fun _ _ => rfl) <| cons_rows (sound_f1 rfl rfl) <|
  cons_rows (sound_f3 (fun _ _ => rfl) fun _ _ => rfl) <| cons_rows (sound_f3 (fun _ _ => rfl) fun _ _ => rfl) <|
  cons_rows (sound_f3 (fun _ _ => rfl) fun _ _ => rfl) <| nil_rows

theorem sound_rowsC : ∀ r ∈ opRowsC, OpRow.Sound r :=
  cons_rows (sound_f2 (fun _ => rfl) fun _ => rfl) <| cons_rows (sound_f2 (fun _ => rfl) fun _ => rfl) <|
  cons_rows (sound_f2 (fun _ => rfl) fun _ => rfl) <| cons_rows (sound_f2 (fun _ => rfl) fun _ => rfl) <|
  cons_rows (sound_f2 (fun _ => rfl) fun _ => rfl) <| cons_rows (sound_f1 rfl rfl) <|
  cons_rows (sound_f2 (fun _ => rfl) fun _ => rfl) <| cons_rows (sound_f1 rfl rfl) <|
  cons_rows (sound_f3 (fun _ _ => rfl) fun _ _ => rfl) <| cons_rows (sound_f3 (fun _ _ => rfl) fun _ _ => rfl) <|
  cons_rows (sound_f3 (fun _ _ => rfl) fun _ _ => rfl) <| nil_rows

theorem sound_rowsD : ∀ r ∈ opRowsD, OpRow.Sound r :=
  cons_rows (sound_f2 (fun _ => rfl) fun _ => rfl) <| cons_rows (sound_f2 (fun _ => rfl) fun _ => rfl) <|
  cons_rows (sound_f2 (fun _ => rfl) fun _ => rfl) <| cons_rows (sound_f2 (fun _ => rfl) fun _ => rfl) <|
  cons_rows (sound_f1 rfl rfl) <| cons_rows (sound_f3 (fun _ _ => rfl) fun _ _ => rfl) <|
  cons_rows (sound_f3 (fun _ _ => rfl) fun _ _ => rfl) <| cons_rows (sound_f3 (fun _ _ => rfl) fun _ _ => rfl) <| nil_rows

theorem sound_rowsE : ∀ r ∈ opRowsE, OpRow.Sound r :=
  cons_rows (sound_f2 (fun _ => rfl) fun _ => rfl) <| cons_rows (sound_f2 (fun _ => rfl) fun _ => rfl) <|
  cons_rows (sound_f2 (fun _ => rfl) fun _ => rfl) <| cons_rows (sound_f2 (fun _ => rfl) fun _ => rfl) <|
  cons_rows (sound_f2 (fun _ => rfl) fun _ => rfl) <| cons_rows (sound_f1 rfl rfl) <|
  cons_rows (sound_f2 (fun _ => rfl) fun _ => rfl) <| cons_rows (sound_f1 rfl rfl) <|
  cons_rows (sound_f3 (fun _ _ => rfl) fun _ _ => rfl) <| cons_rows (sound_f3 (fun _ _ => rfl) fun _ _ => rfl) <|
  cons_rows (sound_f3 (fun _ _ => rfl) fun _ _ => rfl) <| nil_rows

theorem sound_rowsF : ∀ r ∈ opRowsF, OpRow.Sound r :=
  cons_rows (sound_f2 (fun _ => rfl) fun _ => rfl) <| cons_rows (sound_f2 (fun _ => rfl) fun _ => rfl) <|
  cons_rows (sound_f2 (fun _ => rfl) fun _ => rfl) <| cons_rows (sound_f2 (fun _ => rfl) fun _ => rfl) <|
  cons_rows (sound_f1 rfl rfl) <| cons_rows (sound_f3 (fun _ _ => rfl) fun _ _ => rfl) <|
  cons_rows (sound_f3 (fun _ _ => rfl) fun _ _ => rfl) <| cons_rows (sound_f3 (fun _ _ => rfl) fun _ _ => rfl) <| nil_rows

theorem opTable_sound : ∀ r ∈ opTable, OpRow.Sound r :=
  forall_opTable sound_rows0 sound_rows1 sound_rows2 sound_rows3 sound_rows4 sound_rows5 sound_rows6 sound_rows7
    sound_rows8 sound_rows9 sound_rowsA sound_rowsB sound_rowsC sound_rowsD sound_rowsE sound_rowsF

/-- A byte's row is a row of the table, with that byte as its opcode. -/
theorem rowOf_some {b : Byte} {r : OpRow} (h : rowOf b = some r) : r ∈ opTable ∧ r.opcode = b := by
  have hm := List.mem_of_find?_eq_some h
  have ho := List.find?_some h
  refine ⟨?_, by simpa using ho⟩
  rw [List.getD_eq_getElem?_getD] at hm
  cases hg : opGrid[b.toNat / 16]? with
  | none => simp [hg] at hm
  | some l =>
    rw [hg] at hm
    exact List.mem_flatten.mpr ⟨l, List.mem_of_getElem? hg, hm⟩

/-- A byte with no row is one of R72's. -/
theorem rowOf_none : ∀ b : Byte, rowOf b = none → b ∈ undefinedBytes := by
  have h : ∀ b : Byte, (rowOf b).isNone = true → b ∈ undefinedBytes := by decide +kernel
  exact fun b hb => h b (by simp [hb])

/-- OPROM has no entry exactly where the table has no row. -/
theorem lookup_eq_none {b : Byte} : lookup b = none ↔ rowOf b = none := by simp [lookup]

/-- An OPROM entry is the entry of the byte's row. -/
theorem lookup_eq_some {b : Byte} {e : OpcodeEntry} :
    lookup b = some e ↔ ∃ r, rowOf b = some r ∧ r.entry = e := by simp [lookup]

/-- The decoder on an undefined byte. -/
theorem decode_undefined {op : Byte} (h : rowOf op = none) (rest : List Byte) :
    decode (op :: rest) = .ok (.byte op, rest) := by simp [decode, h]

/-- The decoder on a defined opcode: an instruction of the row's length, or not enough bytes. -/
theorem decode_defined {op : Byte} {r : OpRow} (h : rowOf op = some r) (rest : List Byte) :
    (∃ i, decode (op :: rest) = .ok (i, rest.drop (r.length - 1)) ∧ r.length ≤ rest.length + 1 ∧
        encode i = op :: rest.take (r.length - 1) ∧ i.wf = true) ∨
      (decode (op :: rest) = .error (.truncated op r.length) ∧ rest.length + 1 < r.length) := by
  obtain ⟨hm, ho⟩ := rowOf_some h
  have hs := opTable_sound r hm
  subst ho
  unfold OpRow.Sound at hs
  cases hf : r.form with
  | f1 i =>
    simp only [hf] at hs
    left
    exact ⟨i, by simp [decode, h, hf, hs.1], by omega, by simp [hs.1, hs.2.1], hs.2.2⟩
  | f2 mk =>
    simp only [hf] at hs
    cases rest with
    | nil => right; simp [decode, h, hf, hs.1]
    | cons b1 rest =>
      left
      exact ⟨mk b1, by simp [decode, h, hf, hs.1], by simp [hs.1], by simp [hs.1, (hs.2 b1).1], (hs.2 b1).2⟩
  | f3 mk =>
    simp only [hf] at hs
    match rest with
    | [] => right; simp [decode, h, hf, hs.1]
    | [b1] => right; simp [decode, h, hf, hs.1]
    | lo :: hi :: rest =>
      left
      exact ⟨mk lo hi, by simp [decode, h, hf, hs.1], by simp [hs.1], by simp [hs.1, (hs.2 lo hi).1],
        (hs.2 lo hi).2⟩

end Sys2Proof
end

