-- ==== Sys2Proof/Laws/Memory.lean ====
section
/-! SUPPORT. The memory: every operation keeps the canonical form, a read gives what was last written or loaded, and two
canonical memories that read alike are equal. -/

namespace Sys2Proof.Machine

/-- A canonical list stays canonical in a wider range. -/
theorem cellsWf_widen {lo lo' hi hi' : Nat} (hlo : lo' ≤ lo) (hhi : hi ≤ hi') :
    ∀ {c : List Host.Cell}, cellsWf lo hi c = true → cellsWf lo' hi' c = true
  | [], _ => rfl
  | (a, b) :: r, h => by
    simp only [cellsWf, Bool.and_eq_true, decide_eq_true_eq] at h ⊢
    exact ⟨⟨⟨by omega, by omega⟩, h.1.2⟩, cellsWf_widen (le_refl _) hhi h.2⟩

/-- Below its first cell a canonical list reads as unlisted. -/
theorem cellsRead_below {hi x : Nat} :
    ∀ {lo : Nat} {c : List Host.Cell}, cellsWf lo hi c = true → x < lo → cellsRead x c = Memory.unlisted
  | _, [], _, _ => rfl
  | lo, (a, b) :: r, h, hx => by
    simp only [cellsWf, Bool.and_eq_true, decide_eq_true_eq] at h
    have hne : a ≠ x := by omega
    simp only [cellsRead, if_neg hne]
    exact cellsRead_below h.2 (by omega)

/-- A write keeps the canonical form. -/
theorem cellsWrite_wf {hi x : Nat} {v : Byte} (hx : x < hi) :
    ∀ {lo : Nat} {c : List Host.Cell}, lo ≤ x → cellsWf lo hi c = true → cellsWf lo hi (cellsWrite x v c) = true
  | lo, [], hlo, _ => by
    simp only [cellsWrite]
    split <;> simp_all [cellsWf]
  | lo, (a, b) :: r, hlo, h => by
    have h' := h
    simp only [cellsWf, Bool.and_eq_true, decide_eq_true_eq] at h'
    obtain ⟨⟨⟨h1, h2⟩, h3⟩, h4⟩ := h'
    simp only [cellsWrite]
    split_ifs with hlt hv hax hv
    · exact h
    · simp only [cellsWf, Bool.and_eq_true, decide_eq_true_eq]
      exact ⟨⟨⟨hlo, hx⟩, hv⟩, ⟨⟨by omega, h2⟩, h3⟩, h4⟩
    · exact cellsWf_widen (by omega) (le_refl _) h4
    · subst hax
      simp only [cellsWf, Bool.and_eq_true, decide_eq_true_eq]
      exact ⟨⟨⟨hlo, hx⟩, hv⟩, h4⟩
    · simp only [cellsWf, Bool.and_eq_true, decide_eq_true_eq]
      exact ⟨⟨⟨h1, h2⟩, h3⟩, cellsWrite_wf hx (by omega) h4⟩

/-- A read after a write: the written byte at its offset, and what was there before at every other. -/
theorem cellsRead_write {hi x : Nat} {v : Byte} (y : Nat) :
    ∀ {lo : Nat} {c : List Host.Cell}, cellsWf lo hi c = true →
      cellsRead y (cellsWrite x v c) = if y = x then v else cellsRead y c
  | lo, [], _ => by
    simp only [cellsWrite]
    split_ifs with hv hy hy
    · rw [hv]; rfl
    · rfl
    · simp [cellsRead, hy]
    · have : x ≠ y := fun e => hy e.symm
      simp [cellsRead, this]
  | lo, (a, b) :: r, h => by
    have h' := h
    simp only [cellsWf, Bool.and_eq_true, decide_eq_true_eq] at h'
    obtain ⟨⟨⟨h1, h2⟩, h3⟩, h4⟩ := h'
    simp only [cellsWrite]
    split_ifs with hlt hv hyx hyx hax hv hyx hyx hyx
    · have : a ≠ y := by omega
      simp only [cellsRead, if_neg this]
      rw [hv]
      exact cellsRead_below h4 (by omega)
    · rfl
    · simp [cellsRead, hyx]
    · have : x ≠ y := fun e => hyx e.symm
      simp [cellsRead, this]
    · rw [hv]
      exact cellsRead_below h4 (by omega)
    · have : a ≠ y := by omega
      simp [cellsRead, this]
    · simp [cellsRead, hyx]
    · have hxy : x ≠ y := fun e => hyx e.symm
      have hay : a ≠ y := by omega
      simp [cellsRead, hxy, hay]
    · have hay : a ≠ y := by omega
      simp only [cellsRead, if_neg hay]
      rw [cellsRead_write y h4, if_pos hyx]
    · simp only [cellsRead]
      rw [cellsRead_write y h4, if_neg hyx]

/-- Bytes laid out from `x` on are in canonical form. -/
theorem cellsOf_wf : ∀ (bs : List Byte) (x : Nat), cellsWf x (x + bs.length) (cellsOf x bs) = true
  | [], _ => rfl
  | b :: bs, x => by
    have ih := cellsOf_wf bs (x + 1)
    have e : x + (b :: bs).length = x + 1 + bs.length := by simp; omega
    rw [e, cellsOf]
    split_ifs with hb
    · exact cellsWf_widen (by omega) (le_refl _) ih
    · simp only [cellsWf, Bool.and_eq_true, decide_eq_true_eq]
      exact ⟨⟨⟨le_refl _, by omega⟩, hb⟩, ih⟩

/-- Bytes laid out from `x` on read back. -/
theorem cellsRead_cellsOf :
    ∀ (bs : List Byte) (x k : Nat), cellsRead (x + k) (cellsOf x bs) = bs.getD k Memory.unlisted
  | [], _, _ => by simp [cellsOf, cellsRead]
  | b :: bs, x, 0 => by
    rw [cellsOf]
    split_ifs with hb
    · rw [cellsRead_below (cellsOf_wf bs (x + 1)) (by omega)]
      simp [hb]
    · simp [cellsRead]
  | b :: bs, x, k + 1 => by
    have ih := cellsRead_cellsOf bs (x + 1) k
    rw [show x + 1 + k = x + (k + 1) by omega] at ih
    rw [cellsOf]
    split_ifs with hb
    · simpa using ih
    · have : x ≠ x + (k + 1) := by omega
      simp only [cellsRead, if_neg this]
      simpa using ih

/-- The cells of two canonical lists that read alike are the same. -/
theorem cells_ext {hi : Nat} :
    ∀ {lo : Nat} {c d : List Host.Cell}, cellsWf lo hi c = true → cellsWf lo hi d = true →
      (∀ x, lo ≤ x → x < hi → cellsRead x c = cellsRead x d) → c = d
  | _, [], [], _, _, _ => rfl
  | lo, [], (a, b) :: r, _, hd, h => by
    simp only [cellsWf, Bool.and_eq_true, decide_eq_true_eq] at hd
    have := h a hd.1.1.1 hd.1.1.2
    simp only [cellsRead, if_true] at this
    exact absurd this.symm hd.1.2
  | lo, (a, b) :: r, [], hc, _, h => by
    simp only [cellsWf, Bool.and_eq_true, decide_eq_true_eq] at hc
    have := h a hc.1.1.1 hc.1.1.2
    simp only [cellsRead, if_true] at this
    exact absurd this hc.1.2
  | lo, (a, b) :: r, (a', b') :: r', hc, hd, h => by
    simp only [cellsWf, Bool.and_eq_true, decide_eq_true_eq] at hc hd
    have haa : a = a' := by
      by_contra hne
      rcases Nat.lt_or_gt_of_ne hne with hlt | hlt
      · have := h a hc.1.1.1 hc.1.1.2
        simp only [cellsRead, if_true, if_neg (Ne.symm hne)] at this
        rw [cellsRead_below hd.2 (by omega)] at this
        exact hc.1.2 this
      · have := h a' hd.1.1.1 hd.1.1.2
        simp only [cellsRead, if_true, if_neg hne] at this
        rw [cellsRead_below hc.2 (by omega)] at this
        exact hd.1.2 this.symm
    subst haa
    have hbb : b = b' := by
      have := h a hc.1.1.1 hc.1.1.2
      simpa only [cellsRead, if_true] using this
    subst hbb
    congr 1
    refine cells_ext hc.2 hd.2 fun x hx hxh => ?_
    have := h x (by omega) hxh
    have hax : a ≠ x := by omega
    simpa only [cellsRead, if_neg hax] using this

namespace Memory

/-- Reading gives a byte exactly below `size`. -/
theorem read_isSome {m : Memory} {off : Nat} : (m.read off).isSome = true ↔ off < m.size := by
  unfold Memory.read
  split <;> simp_all

theorem read_eq_none {m : Memory} {off : Nat} : m.read off = none ↔ m.size ≤ off := by
  unfold Memory.read
  split <;> simp_all

@[simp] theorem write_size (m : Memory) (off : Nat) (v : Byte) : (m.write off v).size = m.size := by
  unfold Memory.write
  split <;> rfl

@[simp] theorem writeBytes_size (bs : List Byte) :
    ∀ (m : Memory) (off : Nat), (m.writeBytes off bs).size = m.size := by
  induction bs with
  | nil => intro m off; rfl
  | cons b bs ih => intro m off; simp [Memory.writeBytes, ih]

theorem write_wf {m : Memory} (h : m.wf = true) (off : Nat) (v : Byte) : (m.write off v).wf = true := by
  unfold Memory.write
  split
  · exact cellsWrite_wf ‹_› (Nat.zero_le _) h
  · exact h

theorem writeBytes_wf (bs : List Byte) :
    ∀ {m : Memory}, m.wf = true → ∀ off, (m.writeBytes off bs).wf = true := by
  induction bs with
  | nil => intro m h off; exact h
  | cons b bs ih => intro m h off; exact ih (write_wf h off b) (off + 1)

theorem grow_wf {m : Memory} (h : m.wf = true) (n : Nat) : (m.grow n).wf = true :=
  cellsWf_widen (le_refl _) (Nat.le_max_left _ _) h

theorem load_wf (bs : List Byte) : (Memory.load bs).wf = true := by
  have := cellsOf_wf bs 0
  rw [Nat.zero_add] at this
  exact this

/-- A read after a write. -/
theorem read_write {m : Memory} (h : m.wf = true) {off : Nat} (ho : off < m.size) (v : Byte) (y : Nat) :
    (m.write off v).read y = if y = off then some v else m.read y := by
  have hc := cellsRead_write (x := off) (v := v) y h
  unfold Memory.read Memory.write
  rw [if_pos ho]
  by_cases hy : y = off
  · subst hy
    simp_all
  · simp only [if_neg hy] at hc ⊢
    rw [hc]

/-- The loaded bytes read back, and nothing else exists. -/
theorem read_load (bs : List Byte) (k : Nat) : (Memory.load bs).read k = bs[k]? := by
  have hc := cellsRead_cellsOf bs 0 k
  rw [Nat.zero_add] at hc
  unfold Memory.read Memory.load
  by_cases hk : k < bs.length
  · simp [hk, hc, List.getD_eq_getElem?_getD]
  · simp [hk]

/-- Canonical memories of one size that read alike are equal. -/
theorem ext_read {m n : Memory} (hm : m.wf = true) (hn : n.wf = true) (hs : m.size = n.size)
    (h : ∀ x, m.read x = n.read x) : m = n := by
  obtain ⟨ms, mc⟩ := m
  obtain ⟨ns, nc⟩ := n
  simp only at hs
  subst hs
  congr 1
  refine cells_ext hm hn fun x _ hx => ?_
  have := h x
  simpa [Memory.read, hx] using this

/-- `readBytes` gives `n` bytes, or as many as there are. -/
theorem readBytes_length (m : Memory) (n : Nat) :
    ∀ off, (m.readBytes off n).length = min n (m.size - off) := by
  induction n with
  | zero => intro off; simp [Memory.readBytes]
  | succ n ih =>
    intro off
    unfold Memory.readBytes
    cases h : m.read off with
    | none =>
      have := read_eq_none.mp h
      simp; omega
    | some b =>
      have : off < m.size := read_isSome.mp (by simp [h])
      simp [ih]; omega

/-- Reading fewer bytes gives a prefix. -/
theorem readBytes_take (m : Memory) (k : Nat) :
    ∀ (n off : Nat), k ≤ n → m.readBytes off k = (m.readBytes off n).take k := by
  induction k with
  | zero => intro n off _; simp [Memory.readBytes]
  | succ k ih =>
    intro n off hn
    obtain ⟨n, rfl⟩ : ∃ n', n = n' + 1 := ⟨n - 1, by omega⟩
    unfold Memory.readBytes
    cases m.read off with
    | none => rfl
    | some b => simp [ih n (off + 1) (by omega)]

/-- Bytes read in two pieces. -/
theorem readBytes_append (m : Memory) (k : Nat) :
    ∀ (n off : Nat), off + k ≤ m.size →
      m.readBytes off (k + n) = m.readBytes off k ++ m.readBytes (off + k) n := by
  induction k with
  | zero => intro n off _; simp [Memory.readBytes]
  | succ k ih =>
    intro n off h
    rw [show k + 1 + n = k + n + 1 by omega, Memory.readBytes, Memory.readBytes]
    cases hr : m.read off with
    | none => have := read_eq_none.mp hr; omega
    | some b =>
      simp only [List.cons_append, List.cons.injEq, true_and]
      rw [ih n (off + 1) (by omega), show off + 1 + k = off + (k + 1) by omega]

end Memory

end Sys2Proof.Machine
end

