-- ==== Sys2Proof/Laws/Norm.lean ====
section
/-! SUPPORT. The two things NORM can do with a text of at least nine characters, and the texts it tests as characters. -/

namespace Sys2Proof.Machine

/-- What NORM tests, as a proposition. -/
theorem normalize_test (m1 m2 m3 sp dl d1 d2 d3 d4 : Char) (sfx : Text) :
    (normTexts.contains [m1, m2, m3] && sp == ' ' && dl == '$' && [d1, d2, d3, d4].all hexDigits.contains &&
      normSuffixes.contains sfx) = true ↔ [m1, m2, m3] ∈ normTexts ∧ sp = ' ' ∧ dl = '$' ∧ (∀ d ∈ [d1, d2, d3, d4], d ∈ hexDigits) ∧
      sfx ∈ normSuffixes := by
  simp only [Bool.and_eq_true, beq_iff_eq, List.contains_iff_mem, List.all_eq_true, and_assoc]

theorem normalize_rewrites {m1 m2 m3 sp dl d1 d2 d3 d4 : Char} {sfx : Text}
    (h : [m1, m2, m3] ∈ normTexts ∧ sp = ' ' ∧ dl = '$' ∧ (∀ d ∈ [d1, d2, d3, d4], d ∈ hexDigits) ∧
      sfx ∈ normSuffixes) :
    Machine.normalize (m1 :: m2 :: m3 :: sp :: dl :: d1 :: d2 :: d3 :: d4 :: sfx) =
      m1 :: m2 :: m3 :: ' ' :: '$' :: (wildcard ++ sfx) := if_pos ((normalize_test ..).mpr h)

theorem normalize_keeps {m1 m2 m3 sp dl d1 d2 d3 d4 : Char} {sfx : Text}
    (h : ¬ ([m1, m2, m3] ∈ normTexts ∧ sp = ' ' ∧ dl = '$' ∧ (∀ d ∈ [d1, d2, d3, d4], d ∈ hexDigits) ∧
      sfx ∈ normSuffixes)) :
    Machine.normalize (m1 :: m2 :: m3 :: sp :: dl :: d1 :: d2 :: d3 :: d4 :: sfx) =
      m1 :: m2 :: m3 :: sp :: dl :: d1 :: d2 :: d3 :: d4 :: sfx := if_neg fun hc => h ((normalize_test ..).mp hc)

theorem text_dollar : " $".toList = [' ', '$'] := by decide

theorem text_parenDollar : " ($".toList = [' ', '(', '$'] := by decide

theorem text_commaX : ",X".toList = [',', 'X'] := by decide

theorem text_commaY : ",Y".toList = [',', 'Y'] := by decide

theorem text_wildcard : " $????".toList = " $".toList ++ wildcard := by decide

end Sys2Proof.Machine
end

