-- ==== Sys2Proof/Laws/Operands.lean ====
section
/-! SUPPORT. What the operand assembly and the formatter answer, once for each shape of operand. -/

namespace Sys2Proof.Machine

/-- A one-byte operand value is printed as its byte. -/
@[simp] theorem hexLow_setWidth (b : Byte) : hexLow (b.setWidth 16) = hex2 b := by simp [hexLow]

theorem operandValue_one {mode : Mode} (h : operandBytes mode = 1) (op b1 : Byte) :
    operandValue mode [op, b1] = some (b1.setWidth 16) := by simp [operandValue, h]

theorem operandValue_two {mode : Mode} (h : operandBytes mode = 2) (op b1 b2 : Byte) :
    operandValue mode [op, b1, b2] = some (operand16 b1 b2) := by simp [operandValue, h]

theorem render_immediate (mn : Text) (b : Byte) (a : Word) :
    render mn .immediate (some (b.setWidth 16)) a = mn ++ " #$".toList ++ hex2 b := by simp [render, fmt]

theorem render_zeroPage (mn : Text) (b : Byte) (a : Word) :
    render mn .zeroPage (some (b.setWidth 16)) a = mn ++ " $".toList ++ hex2 b := by simp [render, fmt]

theorem render_zeroPageX (mn : Text) (b : Byte) (a : Word) :
    render mn .zeroPageX (some (b.setWidth 16)) a = mn ++ " $".toList ++ hex2 b ++ ",X".toList := by simp [render, fmt]

theorem render_zeroPageY (mn : Text) (b : Byte) (a : Word) :
    render mn .zeroPageY (some (b.setWidth 16)) a = mn ++ " $".toList ++ hex2 b ++ ",Y".toList := by simp [render, fmt]

theorem render_indirectX (mn : Text) (b : Byte) (a : Word) :
    render mn .indirectX (some (b.setWidth 16)) a = mn ++ " ($".toList ++ hex2 b ++ ",X)".toList := by
  simp [render, fmt]

theorem render_indirectY (mn : Text) (b : Byte) (a : Word) :
    render mn .indirectY (some (b.setWidth 16)) a = mn ++ " ($".toList ++ hex2 b ++ "),Y".toList := by
  simp [render, fmt]

theorem render_absolute (mn : Text) (v a : Word) :
    render mn .absolute (some v) a = mn ++ " $".toList ++ hex4 v := by simp [render, fmt]

theorem render_absoluteX (mn : Text) (v a : Word) :
    render mn .absoluteX (some v) a = mn ++ " $".toList ++ hex4 v ++ ",X".toList := by simp [render, fmt]

theorem render_absoluteY (mn : Text) (v a : Word) :
    render mn .absoluteY (some v) a = mn ++ " $".toList ++ hex4 v ++ ",Y".toList := by simp [render, fmt]

theorem render_indirect (mn : Text) (v a : Word) :
    render mn .indirect (some v) a = mn ++ " ($".toList ++ hex4 v ++ ")".toList := by simp [render, fmt]

theorem render_relative (mn : Text) (v a : Word) :
    render mn .relative (some v) a = mn ++ " $".toList ++ hex4 (target a v) := by simp [render, fmt]

/-- A mnemonic's text has three letters, none of them a dot (R76, R77). -/
theorem mnemonicText_letters (m : Mnemonic) : ∃ a b c, mnemonicText m = [a, b, c] ∧ a ≠ '.' := by
  cases m <;> exact ⟨_, _, _, rfl, by decide⟩

/-- Every digit of a rendered number is an uppercase hexadecimal digit. -/
theorem hexDigit_mem (d : BitVec 4) : hexDigit d ∈ hexDigits := by revert d; decide

theorem hexDigit_injective : ∀ a b : BitVec 4, hexDigit a = hexDigit b → a = b := by decide

end Sys2Proof.Machine
end

