-- ==== Sys2Proof/Laws/State.lean ====
section
/-! SUPPORT. One lemma for each field of State after each update of it, so that no proof unfolds an update. -/

namespace Sys2Proof.Machine.State

@[simp] theorem emit_status (s : State) (r : Record) (n : Nat) : (s.emit r n).status = s.status := rfl
@[simp] theorem emit_cur (s : State) (r : Record) (n : Nat) : (s.emit r n).cur = s.cur + n := rfl
@[simp] theorem emit_endOff (s : State) (r : Record) (n : Nat) : (s.emit r n).endOff = s.endOff := rfl
@[simp] theorem emit_base (s : State) (r : Record) (n : Nat) : (s.emit r n).base = s.base := rfl
@[simp] theorem emit_ctrl (s : State) (r : Record) (n : Nat) : (s.emit r n).ctrl = s.ctrl := rfl
@[simp] theorem emit_written (s : State) (r : Record) (n : Nat) : (s.emit r n).written = s.written := rfl
@[simp] theorem emit_errInfo (s : State) (r : Record) (n : Nat) : (s.emit r n).errInfo = s.errInfo := rfl
@[simp] theorem emit_buf (s : State) (r : Record) (n : Nat) : (s.emit r n).buf = s.buf := rfl
@[simp] theorem emit_out (s : State) (r : Record) (n : Nat) : (s.emit r n).out = s.out ++ [r] := rfl
@[simp] theorem emit_inbox (s : State) (r : Record) (n : Nat) : (s.emit r n).inbox = s.inbox := rfl

@[simp] theorem finish_status (s : State) : (s.finish).status = .done := rfl
@[simp] theorem finish_cur (s : State) : (s.finish).cur = s.cur := rfl
@[simp] theorem finish_endOff (s : State) : (s.finish).endOff = s.endOff := rfl
@[simp] theorem finish_base (s : State) : (s.finish).base = s.base := rfl
@[simp] theorem finish_ctrl (s : State) : (s.finish).ctrl = s.ctrl := rfl
@[simp] theorem finish_written (s : State) : (s.finish).written = s.written := rfl
@[simp] theorem finish_errInfo (s : State) : (s.finish).errInfo = s.errInfo := rfl
@[simp] theorem finish_buf (s : State) : (s.finish).buf = s.buf := rfl
@[simp] theorem finish_out (s : State) : (s.finish).out = s.out := rfl
@[simp] theorem finish_inbox (s : State) : (s.finish).inbox = s.inbox := rfl

@[simp] theorem raise_status (s : State) (e : Status) (info : ErrInfo) : (s.raise e info).status = e := rfl
@[simp] theorem raise_cur (s : State) (e : Status) (info : ErrInfo) : (s.raise e info).cur = s.cur := rfl
@[simp] theorem raise_endOff (s : State) (e : Status) (info : ErrInfo) : (s.raise e info).endOff = s.endOff := rfl
@[simp] theorem raise_base (s : State) (e : Status) (info : ErrInfo) : (s.raise e info).base = s.base := rfl
@[simp] theorem raise_ctrl (s : State) (e : Status) (info : ErrInfo) : (s.raise e info).ctrl = s.ctrl := rfl
@[simp] theorem raise_written (s : State) (e : Status) (info : ErrInfo) : (s.raise e info).written = s.written := rfl
@[simp] theorem raise_errInfo (s : State) (e : Status) (info : ErrInfo) : (s.raise e info).errInfo = info := rfl
@[simp] theorem raise_buf (s : State) (e : Status) (info : ErrInfo) : (s.raise e info).buf = s.buf := rfl
@[simp] theorem raise_out (s : State) (e : Status) (info : ErrInfo) : (s.raise e info).out = s.out := rfl
@[simp] theorem raise_inbox (s : State) (e : Status) (info : ErrInfo) : (s.raise e info).inbox = s.inbox := rfl

@[simp] theorem begin_status (s : State) (st en base : Nat) (rc : Bool) : (s.begin st en base rc).status = .running := rfl
@[simp] theorem begin_cur (s : State) (st en base : Nat) (rc : Bool) : (s.begin st en base rc).cur = st := rfl
@[simp] theorem begin_endOff (s : State) (st en base : Nat) (rc : Bool) : (s.begin st en base rc).endOff = min en s.buf.size := rfl
@[simp] theorem begin_base (s : State) (st en base : Nat) (rc : Bool) : (s.begin st en base rc).base = BitVec.ofNat 16 base := rfl
@[simp] theorem begin_ctrl (s : State) (st en base : Nat) (rc : Bool) : (s.begin st en base rc).ctrl = ctrlOf rc := rfl
@[simp] theorem begin_written (s : State) (st en base : Nat) (rc : Bool) : (s.begin st en base rc).written = true := rfl
@[simp] theorem begin_errInfo (s : State) (st en base : Nat) (rc : Bool) : (s.begin st en base rc).errInfo = .none := rfl
@[simp] theorem begin_buf (s : State) (st en base : Nat) (rc : Bool) : (s.begin st en base rc).buf = s.buf := rfl
@[simp] theorem begin_out (s : State) (st en base : Nat) (rc : Bool) : (s.begin st en base rc).out = s.out := rfl
@[simp] theorem begin_inbox (s : State) (st en base : Nat) (rc : Bool) : (s.begin st en base rc).inbox = s.inbox := rfl

@[simp] theorem reset_status (s : State) : (hostReset s).status = State.reset.status := rfl
@[simp] theorem reset_cur (s : State) : (hostReset s).cur = State.reset.cur := rfl
@[simp] theorem reset_endOff (s : State) : (hostReset s).endOff = State.reset.endOff := rfl
@[simp] theorem reset_base (s : State) : (hostReset s).base = State.reset.base := rfl
@[simp] theorem reset_ctrl (s : State) : (hostReset s).ctrl = State.reset.ctrl := rfl
@[simp] theorem reset_written (s : State) : (hostReset s).written = State.reset.written := rfl
@[simp] theorem reset_errInfo (s : State) : (hostReset s).errInfo = State.reset.errInfo := rfl
@[simp] theorem reset_buf (s : State) : (hostReset s).buf = s.buf := rfl
@[simp] theorem reset_out (s : State) : (hostReset s).out = s.out := rfl
@[simp] theorem reset_inbox (s : State) : (hostReset s).inbox = s.inbox := rfl

end Sys2Proof.Machine.State
end

