-- ==== Sys2Proof/Laws/Ops.lean ====
section
/-! SUPPORT. What the shared operations can do, each said once, and what `exec` does with the instruction of a row. -/

namespace Sys2Proof.Machine

/-- An instruction that fits in the buffer is emitted whole. -/
theorem emitInstr_fits {e : OpcodeEntry} {op : Byte} {args : List Byte} {s : State}
    (h : s.cur + e.length ≤ s.buf.size) :
    emitInstr e op args s = .next (s.emit (instrRecord e (op :: args) (addressOf s.base s.cur)) e.length) := by
  simp [emitInstr, h]

/-- An instruction that does not fit takes the truncation outcome. -/
theorem emitInstr_truncated {e : OpcodeEntry} {op : Byte} {args : List Byte} {s : State}
    (h : s.buf.size < s.cur + e.length) : emitInstr e op args s = .next (truncate op e.length s) := by
  simp [emitInstr, Nat.not_le.mpr h]

/-- With `RC = 1` a truncation is an error. -/
theorem truncate_error {op : Byte} {need : Nat} {s : State} (h : s.rc = true) :
    truncate op need s = s.raise .truncated (.truncated s.cur op need (s.buf.size - s.cur)) := by
  simp [truncate, h]

/-- With `RC = 0` a truncated opcode is data. -/
theorem truncate_data {op : Byte} {need : Nat} {s : State} (h : s.rc = false) :
    truncate op need s = emitData op s := by
  simp [truncate, h]

/-- `RC` is CTRL's one bit. -/
theorem rc_eq_true {s : State} : s.rc = true ↔ s.ctrl = 1 := by
  unfold State.rc
  generalize s.ctrl = c
  revert c
  decide

theorem rc_eq_false {s : State} : s.rc = false ↔ s.ctrl = 0 := by
  unfold State.rc
  generalize s.ctrl = c
  revert c
  decide

/-- START ends in one of three ways. -/
theorem hostStart_cases (st en base : Nat) (rc : Option Bool) (s : State) :
    (s.buf.size ≤ st ∧ hostStart st en base rc s = s.raise .invalidRange (.invalidRange .startPastEnd)) ∨
      (st < s.buf.size ∧ en < st ∧
        hostStart st en base rc s = s.raise .invalidRange (.invalidRange .endBeforeStart)) ∨
      (st < s.buf.size ∧ st ≤ en ∧
        hostStart st en base rc s = s.begin st en base (rc.getD Config.defaultRequireComplete)) := by
  unfold hostStart
  split_ifs with h1 h2
  · exact .inl ⟨h1, rfl⟩
  · exact .inr (.inl ⟨by omega, h2, rfl⟩)
  · exact .inr (.inr ⟨by omega, by omega, rfl⟩)

/-- A register holds what it reads as, once a START has written the registers of a run. -/
theorem heldValue_written {s : State} (h : s.written = true) (r : Reg) : heldValue r s = some (readReg r s) := by
  simp [heldValue, h]

/-- Before that the registers of a run hold no value (R40). -/
theorem heldValue_not_written {s : State} {r : Reg} (h : s.written = false) (hr : r.ofRun = true) :
    heldValue r s = none := by
  simp [heldValue, h, hr]

/-- STATUS and ERRINFO always hold a value. -/
theorem heldValue_not_ofRun {s : State} {r : Reg} (hr : r.ofRun = false) : heldValue r s = some (readReg r s) := by
  simp [heldValue, hr]

/-- What `exec` does with the instruction a row builds: the decode of the row's entry. -/
def execRow (r : OpRow) : Prop :=
  match r.form with
  | .f1 i => ∀ s, exec i s = emitInstr r.entry r.opcode [] s
  | .f2 mk => ∀ b1 s, exec (mk b1) s = emitInstr r.entry r.opcode [b1] s
  | .f3 mk => ∀ lo hi s, exec (mk lo hi) s = emitInstr r.entry r.opcode [lo, hi] s

theorem execRow_f1 {op : Byte} {mn : Mnemonic} {md : Mode} {n : Nat} {i : Instr}
    (h : ∀ s, exec i s = emitInstr ⟨mn, md, n⟩ op [] s) : execRow ⟨op, mn, md, n, .f1 i⟩ := h

theorem execRow_f2 {op : Byte} {mn : Mnemonic} {md : Mode} {n : Nat} {g : Byte → Instr}
    (h : ∀ b s, exec (g b) s = emitInstr ⟨mn, md, n⟩ op [b] s) : execRow ⟨op, mn, md, n, .f2 g⟩ := h

theorem execRow_f3 {op : Byte} {mn : Mnemonic} {md : Mode} {n : Nat} {g : Byte → Byte → Instr}
    (h : ∀ lo hi s, exec (g lo hi) s = emitInstr ⟨mn, md, n⟩ op [lo, hi] s) :
    execRow ⟨op, mn, md, n, .f3 g⟩ := h

theorem execRow_rows0 : ∀ r ∈ opRows0, execRow r :=
  cons_rows (execRow_f1 fun _ => rfl) <| cons_rows (execRow_f2 fun _ _ => rfl) <|
  cons_rows (execRow_f2 fun _ _ => rfl) <| cons_rows (execRow_f2 fun _ _ => rfl) <|
  cons_rows (execRow_f1 fun _ => rfl) <| cons_rows (execRow_f2 fun _ _ => rfl) <|
  cons_rows (execRow_f1 fun _ => rfl) <| cons_rows (execRow_f3 fun _ _ _ => rfl) <|
  cons_rows (execRow_f3 fun _ _ _ => rfl) <| nil_rows

theorem execRow_rows1 : ∀ r ∈ opRows1, execRow r :=
  cons_rows (execRow_f2 fun _ _ => rfl) <| cons_rows (execRow_f2 fun _ _ => rfl) <|
  cons_rows (execRow_f2 fun _ _ => rfl) <| cons_rows (execRow_f2 fun _ _ => rfl) <|
  cons_rows (execRow_f1 fun _ => rfl) <| cons_rows (execRow_f3 fun _ _ _ => rfl) <|
  cons_rows (execRow_f3 fun _ _ _ => rfl) <| cons_rows (execRow_f3 fun _ _ _ => rfl) <| nil_rows

theorem execRow_rows2 : ∀ r ∈ opRows2, execRow r :=
  cons_rows (execRow_f3 fun _ _ _ => rfl) <| cons_rows (execRow_f2 fun _ _ => rfl) <|
  cons_rows (execRow_f2 fun _ _ => rfl) <| cons_rows (execRow_f2 fun _ _ => rfl) <|
  cons_rows (execRow_f2 fun _ _ => rfl) <| cons_rows (execRow_f1 fun _ => rfl) <|
  cons_rows (execRow_f2 fun _ _ => rfl) <| cons_rows (execRow_f1 fun _ => rfl) <|
  cons_rows (execRow_f3 fun _ _ _ => rfl) <| cons_rows (execRow_f3 fun _ _ _ => rfl) <|
  cons_rows (execRow_f3 fun _ _ _ => rfl) <| nil_rows

theorem execRow_rows3 : ∀ r ∈ opRows3, execRow r :=
  cons_rows (execRow_f2 fun _ _ => rfl) <| cons_rows (execRow_f2 fun _ _ => rfl) <|
  cons_rows (execRow_f2 fun _ _ => rfl) <| cons_rows (execRow_f2 fun _ _ => rfl) <|
  cons_rows (execRow_f1 fun _ => rfl) <| cons_rows (execRow_f3 fun _ _ _ => rfl) <|
  cons_rows (execRow_f3 fun _ _ _ => rfl) <| cons_rows (execRow_f3 fun _ _ _ => rfl) <| nil_rows

theorem execRow_rows4 : ∀ r ∈ opRows4, execRow r :=
  cons_rows (execRow_f1 fun _ => rfl) <| cons_rows (execRow_f2 fun _ _ => rfl) <|
  cons_rows (execRow_f2 fun _ _ => rfl) <| cons_rows (execRow_f2 fun _ _ => rfl) <|
  cons_rows (execRow_f1 fun _ => rfl) <| cons_rows (execRow_f2 fun _ _ => rfl) <|
  cons_rows (execRow_f1 fun _ => rfl) <| cons_rows (execRow_f3 fun _ _ _ => rfl) <|
  cons_rows (execRow_f3 fun _ _ _ => rfl) <| cons_rows (execRow_f3 fun _ _ _ => rfl) <| nil_rows

theorem execRow_rows5 : ∀ r ∈ opRows5, execRow r :=
  cons_rows (execRow_f2 fun _ _ => rfl) <| cons_rows (execRow_f2 fun _ _ => rfl) <|
  cons_rows (execRow_f2 fun _ _ => rfl) <| cons_rows (execRow_f2 fun _ _ => rfl) <|
  cons_rows (execRow_f1 fun _ => rfl) <| cons_rows (execRow_f3 fun _ _ _ => rfl) <|
  cons_rows (execRow_f3 fun _ _ _ => rfl) <| cons_rows (execRow_f3 fun _ _ _ => rfl) <| nil_rows

theorem execRow_rows6 : ∀ r ∈ opRows6, execRow r :=
  cons_rows (execRow_f1 fun _ => rfl) <| cons_rows (execRow_f2 fun _ _ => rfl) <|
  cons_rows (execRow_f2 fun _ _ => rfl) <| cons_rows (execRow_f2 fun _ _ => rfl) <|
  cons_rows (execRow_f1 fun _ => rfl) <| cons_rows (execRow_f2 fun _ _ => rfl) <|
  cons_rows (execRow_f1 fun _ => rfl) <| cons_rows (execRow_f3 fun _ _ _ => rfl) <|
  cons_rows (execRow_f3 fun _ _ _ => rfl) <| cons_rows (execRow_f3 fun _ _ _ => rfl) <| nil_rows

theorem execRow_rows7 : ∀ r ∈ opRows7, execRow r :=
  cons_rows (execRow_f2 fun _ _ => rfl) <| cons_rows (execRow_f2 fun _ _ => rfl) <|
  cons_rows (execRow_f2 fun _ _ => rfl) <| cons_rows (execRow_f2 fun _ _ => rfl) <|
  cons_rows (execRow_f1 fun _ => rfl) <| cons_rows (execRow_f3 fun _ _ _ => rfl) <|
  cons_rows (execRow_f3 fun _ _ _ => rfl) <| cons_rows (execRow_f3 fun _ _ _ => rfl) <| nil_rows

theorem execRow_rows8 : ∀ r ∈ opRows8, execRow r :=
  cons_rows (execRow_f2 fun _ _ => rfl) <| cons_rows (execRow_f2 fun _ _ => rfl) <|
  cons_rows (execRow_f2 fun _ _ => rfl) <| cons_rows (execRow_f2 fun _ _ => rfl) <|
  cons_rows (execRow_f1 fun _ => rfl) <| cons_rows (execRow_f1 fun _ => rfl) <|
  cons_rows (execRow_f3 fun _ _ _ => rfl) <| cons_rows (execRow_f3 fun _ _ _ => rfl) <|
  cons_rows (execRow_f3 fun _ _ _ => rfl) <| nil_rows

theorem execRow_rows9 : ∀ r ∈ opRows9, execRow r :=
  cons_rows (execRow_f2 fun _ _ => rfl) <| cons_rows (execRow_f2 fun _ _ => rfl) <|
  cons_rows (execRow_f2 fun _ _ => rfl) <| cons_rows (execRow_f2 fun _ _ => rfl) <|
  cons_rows (execRow_f2 fun _ _ => rfl) <| cons_rows (execRow_f1 fun _ => rfl) <|
  cons_rows (execRow_f3 fun _ _ _ => rfl) <| cons_rows (execRow_f1 fun _ => rfl) <|
  cons_rows (execRow_f3 fun _ _ _ => rfl) <| nil_rows

theorem execRow_rowsA : ∀ r ∈ opRowsA, execRow r :=
  cons_rows (execRow_f2 fun _ _ => rfl) <| cons_rows (execRow_f2 fun _ _ => rfl) <|
  cons_rows (execRow_f2 fun _ _ => rfl) <| cons_rows (execRow_f2 fun _ _ => rfl) <|
  cons_rows (execRow_f2 fun _ _ => rfl) <| cons_rows (execRow_f2 fun _ _ => rfl) <|
  cons_rows (execRow_f1 fun _ => rfl) <| cons_rows (execRow_f2 fun _ _ => rfl) <|
  cons_rows (execRow_f1 fun _ => rfl) <| cons_rows (execRow_f3 fun _ _ _ => rfl) <|
  cons_rows (execRow_f3 fun _ _ _ => rfl) <| cons_rows (execRow_f3 fun _ _ _ => rfl) <| nil_rows

theorem execRow_rowsB : ∀ r ∈ opRowsB, execRow r :=
  cons_rows (execRow_f2 fun _ _ => rfl) <| cons_rows (execRow_f2 fun _ _ => rfl) <|
  cons_rows (execRow_f2 fun _ _ => rfl) <| cons_rows (execRow_f2 fun _ _ => rfl) <|
  cons_rows (execRow_f2 fun _ _ => rfl) <| cons_rows (execRow_f1 fun _ => rfl) <|
  cons_rows (execRow_f3 fun _ _ _ => rfl) <| cons_rows (execRow_f1 fun _ => rfl) <|
  cons_rows (execRow_f3 fun _ _ _ => rfl) <| cons_rows (execRow_f3 fun _ _ _ => rfl) <|
  cons_rows (execRow_f3 fun _ _ _ => rfl) <| nil_rows

theorem execRow_rowsC : ∀ r ∈ opRowsC, execRow r :=
  cons_rows (execRow_f2 fun _ _ => rfl) <| cons_rows (execRow_f2 fun _ _ => rfl) <|
  cons_rows (execRow_f2 fun _ _ => rfl) <| cons_rows (execRow_f2 fun _ _ => rfl) <|
  cons_rows (execRow_f2 fun _ _ => rfl) <| cons_rows (execRow_f1 fun _ => rfl) <|
  cons_rows (execRow_f2 fun _ _ => rfl) <| cons_rows (execRow_f1 fun _ => rfl) <|
  cons_rows (execRow_f3 fun _ _ _ => rfl) <| cons_rows (execRow_f3 fun _ _ _ => rfl) <|
  cons_rows (execRow_f3 fun _ _ _ => rfl) <| nil_rows

theorem execRow_rowsD : ∀ r ∈ opRowsD, execRow r :=
  cons_rows (execRow_f2 fun _ _ => rfl) <| cons_rows (execRow_f2 fun _ _ => rfl) <|
  cons_rows (execRow_f2 fun _ _ => rfl) <| cons_rows (execRow_f2 fun _ _ => rfl) <|
  cons_rows (execRow_f1 fun _ => rfl) <| cons_rows (execRow_f3 fun _ _ _ => rfl) <|
  cons_rows (execRow_f3 fun _ _ _ => rfl) <| cons_rows (execRow_f3 fun _ _ _ => rfl) <| nil_rows

theorem execRow_rowsE : ∀ r ∈ opRowsE, execRow r :=
  cons_rows (execRow_f2 fun _ _ => rfl) <| cons_rows (execRow_f2 fun _ _ => rfl) <|
  cons_rows (execRow_f2 fun _ _ => rfl) <| cons_rows (execRow_f2 fun _ _ => rfl) <|
  cons_rows (execRow_f2 fun _ _ => rfl) <| cons_rows (execRow_f1 fun _ => rfl) <|
  cons_rows (execRow_f2 fun _ _ => rfl) <| cons_rows (execRow_f1 fun _ => rfl) <|
  cons_rows (execRow_f3 fun _ _ _ => rfl) <| cons_rows (execRow_f3 fun _ _ _ => rfl) <|
  cons_rows (execRow_f3 fun _ _ _ => rfl) <| nil_rows

theorem execRow_rowsF : ∀ r ∈ opRowsF, execRow r :=
  cons_rows (execRow_f2 fun _ _ => rfl) <| cons_rows (execRow_f2 fun _ _ => rfl) <|
  cons_rows (execRow_f2 fun _ _ => rfl) <| cons_rows (execRow_f2 fun _ _ => rfl) <|
  cons_rows (execRow_f1 fun _ => rfl) <| cons_rows (execRow_f3 fun _ _ _ => rfl) <|
  cons_rows (execRow_f3 fun _ _ _ => rfl) <| cons_rows (execRow_f3 fun _ _ _ => rfl) <| nil_rows

theorem execRow_opTable : ∀ r ∈ opTable, execRow r :=
  forall_opTable execRow_rows0 execRow_rows1 execRow_rows2 execRow_rows3 execRow_rows4 execRow_rows5 execRow_rows6 execRow_rows7
    execRow_rows8 execRow_rows9 execRow_rowsA execRow_rowsB execRow_rowsC execRow_rowsD execRow_rowsE execRow_rowsF

end Sys2Proof.Machine
end

