-- ==== Sys2Proof/Laws/PerInstr.lean ====
section
/-! SUPPORT. Facts about instructions as syntax, one lemma per constructor. -/

namespace Sys2Proof.Laws.EncodedLength

/-- The encoding of a well-formed instruction is as long as its first byte says (R30, R62). -/
def Statement (i : Instr) : Prop :=
  i.wf = true → ∃ op rest, encode i = op :: rest ∧ lengthOf op = (encode i).length

theorem ldaImmediate (ii : Byte) : Statement (.ldaImmediate ii) := fun _ => ⟨_, _, rfl, rfl⟩
theorem ldaZeroPage (zz : Byte) : Statement (.ldaZeroPage zz) := fun _ => ⟨_, _, rfl, rfl⟩
theorem ldaZeroPageX (zz : Byte) : Statement (.ldaZeroPageX zz) := fun _ => ⟨_, _, rfl, rfl⟩
theorem ldaAbsolute (lo hi : Byte) : Statement (.ldaAbsolute lo hi) := fun _ => ⟨_, _, rfl, rfl⟩
theorem ldaAbsoluteX (lo hi : Byte) : Statement (.ldaAbsoluteX lo hi) := fun _ => ⟨_, _, rfl, rfl⟩
theorem ldaAbsoluteY (lo hi : Byte) : Statement (.ldaAbsoluteY lo hi) := fun _ => ⟨_, _, rfl, rfl⟩
theorem ldaIndirectX (zz : Byte) : Statement (.ldaIndirectX zz) := fun _ => ⟨_, _, rfl, rfl⟩
theorem ldaIndirectY (zz : Byte) : Statement (.ldaIndirectY zz) := fun _ => ⟨_, _, rfl, rfl⟩
theorem ldxImmediate (ii : Byte) : Statement (.ldxImmediate ii) := fun _ => ⟨_, _, rfl, rfl⟩
theorem ldxZeroPage (zz : Byte) : Statement (.ldxZeroPage zz) := fun _ => ⟨_, _, rfl, rfl⟩
theorem ldxZeroPageY (zz : Byte) : Statement (.ldxZeroPageY zz) := fun _ => ⟨_, _, rfl, rfl⟩
theorem ldxAbsolute (lo hi : Byte) : Statement (.ldxAbsolute lo hi) := fun _ => ⟨_, _, rfl, rfl⟩
theorem ldxAbsoluteY (lo hi : Byte) : Statement (.ldxAbsoluteY lo hi) := fun _ => ⟨_, _, rfl, rfl⟩
theorem ldyImmediate (ii : Byte) : Statement (.ldyImmediate ii) := fun _ => ⟨_, _, rfl, rfl⟩
theorem ldyZeroPage (zz : Byte) : Statement (.ldyZeroPage zz) := fun _ => ⟨_, _, rfl, rfl⟩
theorem ldyZeroPageX (zz : Byte) : Statement (.ldyZeroPageX zz) := fun _ => ⟨_, _, rfl, rfl⟩
theorem ldyAbsolute (lo hi : Byte) : Statement (.ldyAbsolute lo hi) := fun _ => ⟨_, _, rfl, rfl⟩
theorem ldyAbsoluteX (lo hi : Byte) : Statement (.ldyAbsoluteX lo hi) := fun _ => ⟨_, _, rfl, rfl⟩
theorem staZeroPage (zz : Byte) : Statement (.staZeroPage zz) := fun _ => ⟨_, _, rfl, rfl⟩
theorem staZeroPageX (zz : Byte) : Statement (.staZeroPageX zz) := fun _ => ⟨_, _, rfl, rfl⟩
theorem staAbsolute (lo hi : Byte) : Statement (.staAbsolute lo hi) := fun _ => ⟨_, _, rfl, rfl⟩
theorem staAbsoluteX (lo hi : Byte) : Statement (.staAbsoluteX lo hi) := fun _ => ⟨_, _, rfl, rfl⟩
theorem staAbsoluteY (lo hi : Byte) : Statement (.staAbsoluteY lo hi) := fun _ => ⟨_, _, rfl, rfl⟩
theorem staIndirectX (zz : Byte) : Statement (.staIndirectX zz) := fun _ => ⟨_, _, rfl, rfl⟩
theorem staIndirectY (zz : Byte) : Statement (.staIndirectY zz) := fun _ => ⟨_, _, rfl, rfl⟩
theorem stxZeroPage (zz : Byte) : Statement (.stxZeroPage zz) := fun _ => ⟨_, _, rfl, rfl⟩
theorem stxZeroPageY (zz : Byte) : Statement (.stxZeroPageY zz) := fun _ => ⟨_, _, rfl, rfl⟩
theorem stxAbsolute (lo hi : Byte) : Statement (.stxAbsolute lo hi) := fun _ => ⟨_, _, rfl, rfl⟩
theorem styZeroPage (zz : Byte) : Statement (.styZeroPage zz) := fun _ => ⟨_, _, rfl, rfl⟩
theorem styZeroPageX (zz : Byte) : Statement (.styZeroPageX zz) := fun _ => ⟨_, _, rfl, rfl⟩
theorem styAbsolute (lo hi : Byte) : Statement (.styAbsolute lo hi) := fun _ => ⟨_, _, rfl, rfl⟩
theorem tax : Statement .tax := fun _ => ⟨_, _, rfl, rfl⟩
theorem tay : Statement .tay := fun _ => ⟨_, _, rfl, rfl⟩
theorem txa : Statement .txa := fun _ => ⟨_, _, rfl, rfl⟩
theorem tya : Statement .tya := fun _ => ⟨_, _, rfl, rfl⟩
theorem tsx : Statement .tsx := fun _ => ⟨_, _, rfl, rfl⟩
theorem txs : Statement .txs := fun _ => ⟨_, _, rfl, rfl⟩
theorem adcImmediate (ii : Byte) : Statement (.adcImmediate ii) := fun _ => ⟨_, _, rfl, rfl⟩
theorem adcZeroPage (zz : Byte) : Statement (.adcZeroPage zz) := fun _ => ⟨_, _, rfl, rfl⟩
theorem adcZeroPageX (zz : Byte) : Statement (.adcZeroPageX zz) := fun _ => ⟨_, _, rfl, rfl⟩
theorem adcAbsolute (lo hi : Byte) : Statement (.adcAbsolute lo hi) := fun _ => ⟨_, _, rfl, rfl⟩
theorem adcAbsoluteX (lo hi : Byte) : Statement (.adcAbsoluteX lo hi) := fun _ => ⟨_, _, rfl, rfl⟩
theorem adcAbsoluteY (lo hi : Byte) : Statement (.adcAbsoluteY lo hi) := fun _ => ⟨_, _, rfl, rfl⟩
theorem adcIndirectX (zz : Byte) : Statement (.adcIndirectX zz) := fun _ => ⟨_, _, rfl, rfl⟩
theorem adcIndirectY (zz : Byte) : Statement (.adcIndirectY zz) := fun _ => ⟨_, _, rfl, rfl⟩
theorem sbcImmediate (ii : Byte) : Statement (.sbcImmediate ii) := fun _ => ⟨_, _, rfl, rfl⟩
theorem sbcZeroPage (zz : Byte) : Statement (.sbcZeroPage zz) := fun _ => ⟨_, _, rfl, rfl⟩
theorem sbcZeroPageX (zz : Byte) : Statement (.sbcZeroPageX zz) := fun _ => ⟨_, _, rfl, rfl⟩
theorem sbcAbsolute (lo hi : Byte) : Statement (.sbcAbsolute lo hi) := fun _ => ⟨_, _, rfl, rfl⟩
theorem sbcAbsoluteX (lo hi : Byte) : Statement (.sbcAbsoluteX lo hi) := fun _ => ⟨_, _, rfl, rfl⟩
theorem sbcAbsoluteY (lo hi : Byte) : Statement (.sbcAbsoluteY lo hi) := fun _ => ⟨_, _, rfl, rfl⟩
theorem sbcIndirectX (zz : Byte) : Statement (.sbcIndirectX zz) := fun _ => ⟨_, _, rfl, rfl⟩
theorem sbcIndirectY (zz : Byte) : Statement (.sbcIndirectY zz) := fun _ => ⟨_, _, rfl, rfl⟩
theorem andImmediate (ii : Byte) : Statement (.andImmediate ii) := fun _ => ⟨_, _, rfl, rfl⟩
theorem andZeroPage (zz : Byte) : Statement (.andZeroPage zz) := fun _ => ⟨_, _, rfl, rfl⟩
theorem andZeroPageX (zz : Byte) : Statement (.andZeroPageX zz) := fun _ => ⟨_, _, rfl, rfl⟩
theorem andAbsolute (lo hi : Byte) : Statement (.andAbsolute lo hi) := fun _ => ⟨_, _, rfl, rfl⟩
theorem andAbsoluteX (lo hi : Byte) : Statement (.andAbsoluteX lo hi) := fun _ => ⟨_, _, rfl, rfl⟩
theorem andAbsoluteY (lo hi : Byte) : Statement (.andAbsoluteY lo hi) := fun _ => ⟨_, _, rfl, rfl⟩
theorem andIndirectX (zz : Byte) : Statement (.andIndirectX zz) := fun _ => ⟨_, _, rfl, rfl⟩
theorem andIndirectY (zz : Byte) : Statement (.andIndirectY zz) := fun _ => ⟨_, _, rfl, rfl⟩
theorem oraImmediate (ii : Byte) : Statement (.oraImmediate ii) := fun _ => ⟨_, _, rfl, rfl⟩
theorem oraZeroPage (zz : Byte) : Statement (.oraZeroPage zz) := fun _ => ⟨_, _, rfl, rfl⟩
theorem oraZeroPageX (zz : Byte) : Statement (.oraZeroPageX zz) := fun _ => ⟨_, _, rfl, rfl⟩
theorem oraAbsolute (lo hi : Byte) : Statement (.oraAbsolute lo hi) := fun _ => ⟨_, _, rfl, rfl⟩
theorem oraAbsoluteX (lo hi : Byte) : Statement (.oraAbsoluteX lo hi) := fun _ => ⟨_, _, rfl, rfl⟩
theorem oraAbsoluteY (lo hi : Byte) : Statement (.oraAbsoluteY lo hi) := fun _ => ⟨_, _, rfl, rfl⟩
theorem oraIndirectX (zz : Byte) : Statement (.oraIndirectX zz) := fun _ => ⟨_, _, rfl, rfl⟩
theorem oraIndirectY (zz : Byte) : Statement (.oraIndirectY zz) := fun _ => ⟨_, _, rfl, rfl⟩
theorem eorImmediate (ii : Byte) : Statement (.eorImmediate ii) := fun _ => ⟨_, _, rfl, rfl⟩
theorem eorZeroPage (zz : Byte) : Statement (.eorZeroPage zz) := fun _ => ⟨_, _, rfl, rfl⟩
theorem eorZeroPageX (zz : Byte) : Statement (.eorZeroPageX zz) := fun _ => ⟨_, _, rfl, rfl⟩
theorem eorAbsolute (lo hi : Byte) : Statement (.eorAbsolute lo hi) := fun _ => ⟨_, _, rfl, rfl⟩
theorem eorAbsoluteX (lo hi : Byte) : Statement (.eorAbsoluteX lo hi) := fun _ => ⟨_, _, rfl, rfl⟩
theorem eorAbsoluteY (lo hi : Byte) : Statement (.eorAbsoluteY lo hi) := fun _ => ⟨_, _, rfl, rfl⟩
theorem eorIndirectX (zz : Byte) : Statement (.eorIndirectX zz) := fun _ => ⟨_, _, rfl, rfl⟩
theorem eorIndirectY (zz : Byte) : Statement (.eorIndirectY zz) := fun _ => ⟨_, _, rfl, rfl⟩
theorem cmpImmediate (ii : Byte) : Statement (.cmpImmediate ii) := fun _ => ⟨_, _, rfl, rfl⟩
theorem cmpZeroPage (zz : Byte) : Statement (.cmpZeroPage zz) := fun _ => ⟨_, _, rfl, rfl⟩
theorem cmpZeroPageX (zz : Byte) : Statement (.cmpZeroPageX zz) := fun _ => ⟨_, _, rfl, rfl⟩
theorem cmpAbsolute (lo hi : Byte) : Statement (.cmpAbsolute lo hi) := fun _ => ⟨_, _, rfl, rfl⟩
theorem cmpAbsoluteX (lo hi : Byte) : Statement (.cmpAbsoluteX lo hi) := fun _ => ⟨_, _, rfl, rfl⟩
theorem cmpAbsoluteY (lo hi : Byte) : Statement (.cmpAbsoluteY lo hi) := fun _ => ⟨_, _, rfl, rfl⟩
theorem cmpIndirectX (zz : Byte) : Statement (.cmpIndirectX zz) := fun _ => ⟨_, _, rfl, rfl⟩
theorem cmpIndirectY (zz : Byte) : Statement (.cmpIndirectY zz) := fun _ => ⟨_, _, rfl, rfl⟩
theorem cpxImmediate (ii : Byte) : Statement (.cpxImmediate ii) := fun _ => ⟨_, _, rfl, rfl⟩
theorem cpxZeroPage (zz : Byte) : Statement (.cpxZeroPage zz) := fun _ => ⟨_, _, rfl, rfl⟩
theorem cpxAbsolute (lo hi : Byte) : Statement (.cpxAbsolute lo hi) := fun _ => ⟨_, _, rfl, rfl⟩
theorem cpyImmediate (ii : Byte) : Statement (.cpyImmediate ii) := fun _ => ⟨_, _, rfl, rfl⟩
theorem cpyZeroPage (zz : Byte) : Statement (.cpyZeroPage zz) := fun _ => ⟨_, _, rfl, rfl⟩
theorem cpyAbsolute (lo hi : Byte) : Statement (.cpyAbsolute lo hi) := fun _ => ⟨_, _, rfl, rfl⟩
theorem bitZeroPage (zz : Byte) : Statement (.bitZeroPage zz) := fun _ => ⟨_, _, rfl, rfl⟩
theorem bitAbsolute (lo hi : Byte) : Statement (.bitAbsolute lo hi) := fun _ => ⟨_, _, rfl, rfl⟩
theorem aslAccumulator : Statement .aslAccumulator := fun _ => ⟨_, _, rfl, rfl⟩
theorem aslZeroPage (zz : Byte) : Statement (.aslZeroPage zz) := fun _ => ⟨_, _, rfl, rfl⟩
theorem aslZeroPageX (zz : Byte) : Statement (.aslZeroPageX zz) := fun _ => ⟨_, _, rfl, rfl⟩
theorem aslAbsolute (lo hi : Byte) : Statement (.aslAbsolute lo hi) := fun _ => ⟨_, _, rfl, rfl⟩
theorem aslAbsoluteX (lo hi : Byte) : Statement (.aslAbsoluteX lo hi) := fun _ => ⟨_, _, rfl, rfl⟩
theorem lsrAccumulator : Statement .lsrAccumulator := fun _ => ⟨_, _, rfl, rfl⟩
theorem lsrZeroPage (zz : Byte) : Statement (.lsrZeroPage zz) := fun _ => ⟨_, _, rfl, rfl⟩
theorem lsrZeroPageX (zz : Byte) : Statement (.lsrZeroPageX zz) := fun _ => ⟨_, _, rfl, rfl⟩
theorem lsrAbsolute (lo hi : Byte) : Statement (.lsrAbsolute lo hi) := fun _ => ⟨_, _, rfl, rfl⟩
theorem lsrAbsoluteX (lo hi : Byte) : Statement (.lsrAbsoluteX lo hi) := fun _ => ⟨_, _, rfl, rfl⟩
theorem rolAccumulator : Statement .rolAccumulator := fun _ => ⟨_, _, rfl, rfl⟩
theorem rolZeroPage (zz : Byte) : Statement (.rolZeroPage zz) := fun _ => ⟨_, _, rfl, rfl⟩
theorem rolZeroPageX (zz : Byte) : Statement (.rolZeroPageX zz) := fun _ => ⟨_, _, rfl, rfl⟩
theorem rolAbsolute (lo hi : Byte) : Statement (.rolAbsolute lo hi) := fun _ => ⟨_, _, rfl, rfl⟩
theorem rolAbsoluteX (lo hi : Byte) : Statement (.rolAbsoluteX lo hi) := fun _ => ⟨_, _, rfl, rfl⟩
theorem rorAccumulator : Statement .rorAccumulator := fun _ => ⟨_, _, rfl, rfl⟩
theorem rorZeroPage (zz : Byte) : Statement (.rorZeroPage zz) := fun _ => ⟨_, _, rfl, rfl⟩
theorem rorZeroPageX (zz : Byte) : Statement (.rorZeroPageX zz) := fun _ => ⟨_, _, rfl, rfl⟩
theorem rorAbsolute (lo hi : Byte) : Statement (.rorAbsolute lo hi) := fun _ => ⟨_, _, rfl, rfl⟩
theorem rorAbsoluteX (lo hi : Byte) : Statement (.rorAbsoluteX lo hi) := fun _ => ⟨_, _, rfl, rfl⟩
theorem incZeroPage (zz : Byte) : Statement (.incZeroPage zz) := fun _ => ⟨_, _, rfl, rfl⟩
theorem incZeroPageX (zz : Byte) : Statement (.incZeroPageX zz) := fun _ => ⟨_, _, rfl, rfl⟩
theorem incAbsolute (lo hi : Byte) : Statement (.incAbsolute lo hi) := fun _ => ⟨_, _, rfl, rfl⟩
theorem incAbsoluteX (lo hi : Byte) : Statement (.incAbsoluteX lo hi) := fun _ => ⟨_, _, rfl, rfl⟩
theorem decZeroPage (zz : Byte) : Statement (.decZeroPage zz) := fun _ => ⟨_, _, rfl, rfl⟩
theorem decZeroPageX (zz : Byte) : Statement (.decZeroPageX zz) := fun _ => ⟨_, _, rfl, rfl⟩
theorem decAbsolute (lo hi : Byte) : Statement (.decAbsolute lo hi) := fun _ => ⟨_, _, rfl, rfl⟩
theorem decAbsoluteX (lo hi : Byte) : Statement (.decAbsoluteX lo hi) := fun _ => ⟨_, _, rfl, rfl⟩
theorem inx : Statement .inx := fun _ => ⟨_, _, rfl, rfl⟩
theorem iny : Statement .iny := fun _ => ⟨_, _, rfl, rfl⟩
theorem dex : Statement .dex := fun _ => ⟨_, _, rfl, rfl⟩
theorem dey : Statement .dey := fun _ => ⟨_, _, rfl, rfl⟩
theorem bpl (rr : Byte) : Statement (.bpl rr) := fun _ => ⟨_, _, rfl, rfl⟩
theorem bmi (rr : Byte) : Statement (.bmi rr) := fun _ => ⟨_, _, rfl, rfl⟩
theorem bvc (rr : Byte) : Statement (.bvc rr) := fun _ => ⟨_, _, rfl, rfl⟩
theorem bvs (rr : Byte) : Statement (.bvs rr) := fun _ => ⟨_, _, rfl, rfl⟩
theorem bcc (rr : Byte) : Statement (.bcc rr) := fun _ => ⟨_, _, rfl, rfl⟩
theorem bcs (rr : Byte) : Statement (.bcs rr) := fun _ => ⟨_, _, rfl, rfl⟩
theorem bne (rr : Byte) : Statement (.bne rr) := fun _ => ⟨_, _, rfl, rfl⟩
theorem beq (rr : Byte) : Statement (.beq rr) := fun _ => ⟨_, _, rfl, rfl⟩
theorem jmpAbsolute (lo hi : Byte) : Statement (.jmpAbsolute lo hi) := fun _ => ⟨_, _, rfl, rfl⟩
theorem jmpIndirect (lo hi : Byte) : Statement (.jmpIndirect lo hi) := fun _ => ⟨_, _, rfl, rfl⟩
theorem jsrAbsolute (lo hi : Byte) : Statement (.jsrAbsolute lo hi) := fun _ => ⟨_, _, rfl, rfl⟩
theorem rts : Statement .rts := fun _ => ⟨_, _, rfl, rfl⟩
theorem rti : Statement .rti := fun _ => ⟨_, _, rfl, rfl⟩
theorem brk : Statement .brk := fun _ => ⟨_, _, rfl, rfl⟩
theorem pha : Statement .pha := fun _ => ⟨_, _, rfl, rfl⟩
theorem php : Statement .php := fun _ => ⟨_, _, rfl, rfl⟩
theorem pla : Statement .pla := fun _ => ⟨_, _, rfl, rfl⟩
theorem plp : Statement .plp := fun _ => ⟨_, _, rfl, rfl⟩
theorem clc : Statement .clc := fun _ => ⟨_, _, rfl, rfl⟩
theorem sec : Statement .sec := fun _ => ⟨_, _, rfl, rfl⟩
theorem cli : Statement .cli := fun _ => ⟨_, _, rfl, rfl⟩
theorem sei : Statement .sei := fun _ => ⟨_, _, rfl, rfl⟩
theorem clv : Statement .clv := fun _ => ⟨_, _, rfl, rfl⟩
theorem cld : Statement .cld := fun _ => ⟨_, _, rfl, rfl⟩
theorem sed : Statement .sed := fun _ => ⟨_, _, rfl, rfl⟩
theorem nop : Statement .nop := fun _ => ⟨_, _, rfl, rfl⟩

/-- An undefined byte has no entry in OPROM (R69, R72). -/
theorem lookup_undefined : ∀ b ∈ undefinedBytes, lookup b = none := by decide

theorem byte (b : Byte) : Statement (.byte b) := fun h =>
  ⟨b, [], rfl, by
    have hb : b ∈ undefinedBytes := by simpa [Instr.wf] using h
    simp [lengthOf, lookup_undefined b hb, encode]⟩

end Sys2Proof.Laws.EncodedLength
end

