-- ==== Sys2Proof/Laws/Step.lean ====
section
/-! SUPPORT. What one STEP can do, said once for each case, and the inversion that says these are all. -/

namespace Sys2Proof.Machine

/-- With nothing pending from the host, a step of the machine is the block's STEP. -/
theorem step_of_inbox_nil {s : State} (h : s.inbox = []) : step s = stepRun s := by
  simp [step, hostNext, h]

/-- A pending operation is taken off the list and runs. -/
theorem step_of_inbox_cons {s : State} {op : HostOp} {rest : List HostOp} (h : s.inbox = op :: rest) :
    step s = hostOp op { s with inbox := rest } := by
  simp [step, hostNext, h]

theorem stepRun_not_running {s : State} (h : s.status ≠ .running) : stepRun s = .fault .stepNotEnabled := by
  simp [stepRun, h]

theorem stepRun_finish {s : State} (hr : s.status = .running) (h : s.endOff ≤ s.cur) :
    stepRun s = .next s.finish := by
  simp [stepRun, hr, h]

/-- The bytes a STEP may decode begin with the byte at the cursor. -/
theorem fetchBytes_of_read {s : State} {b : Byte} (h : s.buf.read s.cur = some b) :
    fetchBytes s = b :: s.buf.readBytes (s.cur + 1) 2 := by
  simp [fetchBytes, Memory.readBytes, h]

theorem stepRun_past_buffer {s : State} (hr : s.status = .running) (h : s.cur < s.endOff)
    (hb : s.buf.read s.cur = none) : stepRun s = .fault .readPastBuffer := by
  have : fetchBytes s = [] := by simp [fetchBytes, Memory.readBytes, hb]
  simp [stepRun, hr, Nat.not_le.mpr h, this, decode]

theorem stepRun_data {s : State} {b : Byte} (hr : s.status = .running) (h : s.cur < s.endOff)
    (hb : s.buf.read s.cur = some b) (hrow : rowOf b = none) : stepRun s = .next (emitData b s) := by
  simp [stepRun, hr, Nat.not_le.mpr h, fetchBytes_of_read hb, decode_undefined hrow, exec, execByte]

/-- The instruction that the decoder builds for a row does that row's decode. -/
theorem exec_of_decode {op : Byte} {r : OpRow} (h : rowOf op = some r) {rest rest' : List Byte} {i : Instr}
    (hd : decode (op :: rest) = .ok (i, rest')) (s : State) :
    exec i s = emitInstr r.entry op (rest.take (r.length - 1)) s := by
  obtain ⟨hm, ho⟩ := rowOf_some h
  subst ho
  have hs := opTable_sound r hm
  have he := execRow_opTable r hm
  unfold OpRow.Sound at hs
  unfold execRow at he
  cases hf : r.form with
  | f1 j =>
    simp only [hf] at hs he
    simp only [decode, h, hf, Except.ok.injEq, Prod.mk.injEq] at hd
    simp [← hd.1, he, hs.1]
  | f2 g =>
    simp only [hf] at hs he
    cases rest with
    | nil => simp [decode, h, hf] at hd
    | cons b1 rest =>
      simp only [decode, h, hf, Except.ok.injEq, Prod.mk.injEq] at hd
      simp [← hd.1, he, hs.1]
  | f3 g =>
    simp only [hf] at hs he
    match rest with
    | [] => simp [decode, h, hf] at hd
    | [b1] => simp [decode, h, hf] at hd
    | lo :: hi :: rest =>
      simp only [decode, h, hf, Except.ok.injEq, Prod.mk.injEq] at hd
      simp [← hd.1, he, hs.1]

/-- A row's length is 1, 2 or 3. -/
theorem row_length {b : Byte} {r : OpRow} (h : rowOf b = some r) : 1 ≤ r.length ∧ r.length ≤ 3 := by
  have hs := opTable_sound r (rowOf_some h).1
  unfold OpRow.Sound at hs
  cases hf : r.form <;> simp only [hf] at hs <;> omega

theorem stepRun_fits {s : State} {b : Byte} {r : OpRow} (hr : s.status = .running) (h : s.cur < s.endOff)
    (hb : s.buf.read s.cur = some b) (hrow : rowOf b = some r) (hfit : s.cur + r.length ≤ s.buf.size) :
    stepRun s = .next (s.emit (instrRecord r.entry (s.buf.readBytes s.cur r.length)
      (addressOf s.base s.cur)) r.length) := by
  obtain ⟨h1, h3⟩ := row_length hrow
  have hlen := Memory.readBytes_length s.buf 2 (s.cur + 1)
  rcases decode_defined hrow (s.buf.readBytes (s.cur + 1) 2) with ⟨i, hd, -, -, -⟩ | ⟨-, hlt⟩
  · have hbytes : s.buf.readBytes s.cur r.length =
        b :: (s.buf.readBytes (s.cur + 1) 2).take (r.length - 1) := by
      obtain ⟨k, hk⟩ : ∃ k, r.length = k + 1 := ⟨r.length - 1, by omega⟩
      rw [hk, Memory.readBytes]
      simp only [hb, Nat.add_sub_cancel]
      rw [← Memory.readBytes_take _ _ _ _ (by omega)]
    simp only [stepRun, hr, ne_eq, not_true_eq_false, if_false, Nat.not_le.mpr h, fetchBytes_of_read hb, hd]
    rw [exec_of_decode hrow hd, emitInstr_fits hfit, hbytes]
    rfl
  · omega

theorem stepRun_truncated {s : State} {b : Byte} {r : OpRow} (hr : s.status = .running) (h : s.cur < s.endOff)
    (hb : s.buf.read s.cur = some b) (hrow : rowOf b = some r) (hfit : s.buf.size < s.cur + r.length) :
    stepRun s = .next (truncate b r.length s) := by
  obtain ⟨h1, h3⟩ := row_length hrow
  have hlen := Memory.readBytes_length s.buf 2 (s.cur + 1)
  have hcur : s.cur < s.buf.size := Memory.read_isSome.mp (by simp [hb])
  rcases decode_defined hrow (s.buf.readBytes (s.cur + 1) 2) with ⟨i, hd, hle, -, -⟩ | ⟨hd, -⟩
  · omega
  · simp [stepRun, hr, Nat.not_le.mpr h, fetchBytes_of_read hb, hd]

/-- Everything a STEP that answers a next state can have done. -/
theorem stepRun_cases {s s' : State} (h : stepRun s = .next s') :
    s.status = .running ∧
      ((s.endOff ≤ s.cur ∧ s' = s.finish) ∨
        (s.cur < s.endOff ∧ ∃ b, s.buf.read s.cur = some b ∧
          ((rowOf b = none ∧ s' = emitData b s) ∨
            ∃ r, rowOf b = some r ∧
              ((s.cur + r.length ≤ s.buf.size ∧
                  s' = s.emit (instrRecord r.entry (s.buf.readBytes s.cur r.length) (addressOf s.base s.cur)) r.length) ∨
                (s.buf.size < s.cur + r.length ∧ s' = truncate b r.length s))))) := by
  by_cases hr : s.status = .running
  · refine ⟨hr, ?_⟩
    rcases Nat.lt_or_ge s.cur s.endOff with hlt | hge
    · right
      refine ⟨hlt, ?_⟩
      cases hb : s.buf.read s.cur with
      | none => rw [stepRun_past_buffer hr hlt hb] at h; cases h
      | some b =>
        refine ⟨b, rfl, ?_⟩
        cases hrow : rowOf b with
        | none =>
          rw [stepRun_data hr hlt hb hrow] at h
          injection h with h
          exact .inl ⟨rfl, h.symm⟩
        | some r =>
          right
          refine ⟨r, rfl, ?_⟩
          rcases Nat.lt_or_ge s.buf.size (s.cur + r.length) with ht | hf
          · rw [stepRun_truncated hr hlt hb hrow ht] at h
            injection h with h
            exact .inr ⟨ht, h.symm⟩
          · rw [stepRun_fits hr hlt hb hrow hf] at h
            injection h with h
            exact .inl ⟨hf, h.symm⟩
    · rw [stepRun_finish hr hge] at h
      injection h with h
      exact .inl ⟨hge, h.symm⟩
  · rw [stepRun_not_running hr] at h
    cases h

end Sys2Proof.Machine
end

