-- ==== Sys2Proof/Laws/Run.lean ====
section
/-! SUPPORT. The run as a sequence: where it stops, and how it goes on by one STEP. -/

namespace Sys2Proof.Machine

/-- A run that is not in progress stays as it is, however many STEPs are allowed. -/
theorem runLoop_not_running {s : State} (h : s.status ≠ .running) (n : Nat) : runLoop n s = s := by
  cases n <;> simp [runLoop, h]

/-- A run in progress goes on from what its STEP answers. -/
theorem runLoop_next {n : Nat} {s t : State} (hr : s.status = .running) (hs : stepRun s = .next t) :
    runLoop (n + 1) s = runLoop n t := by
  simp [runLoop, hr, hs]

/-- `decodeRange` from an accepted START. -/
theorem decodeRange_begin {st en base : Nat} {rc : Option Bool} {s : State} (h1 : st < s.buf.size) (h2 : st ≤ en) :
    decodeRange st en base rc s =
      runLoop (min en s.buf.size - st + 1) (s.begin st en base (rc.getD Config.defaultRequireComplete)) := by
  have : hostStart st en base rc s = s.begin st en base (rc.getD Config.defaultRequireComplete) := by
    rw [hostStart, if_neg (Nat.not_le.mpr h1), if_neg (Nat.not_lt.mpr h2)]
  simp only [decodeRange, this]
  rfl

/-- Every case of a STEP of a run that stays inside its buffer: it ends the run, emits one record and moves on, or raises
the truncation. -/
theorem stepRun_running {s : State} (hr : s.status = .running) (he : s.endOff ≤ s.buf.size) :
    (s.endOff ≤ s.cur ∧ stepRun s = .next s.finish) ∨
      (s.cur < s.endOff ∧ ∃ k r, 1 ≤ k ∧ k ≤ 3 ∧ stepRun s = .next (s.emit r k) ∧
        r.address = addressOf s.base s.cur ∧ r.rawBytes = s.buf.readBytes s.cur k ∧ r.rawBytes.length = k ∧
        s.cur + k ≤ s.buf.size) ∨
      (s.cur < s.endOff ∧ s.rc = true ∧ ∃ info, stepRun s = .next (s.raise .truncated info)) := by
  rcases Nat.lt_or_ge s.cur s.endOff with hc | hc
  swap
  · exact .inl ⟨hc, stepRun_finish hr hc⟩
  right
  cases hb : s.buf.read s.cur with
  | none =>
    rw [Memory.read_eq_none] at hb
    omega
  | some b =>
    have hb1 : s.buf.readBytes s.cur 1 = [b] := by simp [Memory.readBytes, hb]
    cases hrow : rowOf b with
    | none =>
      exact .inl ⟨hc, 1, dataRecord b (addressOf s.base s.cur), le_refl _, by omega, stepRun_data hr hc hb hrow, rfl,
        hb1.symm, rfl, by omega⟩
    | some r =>
      obtain ⟨h1, h3⟩ := row_length hrow
      rcases Nat.lt_or_ge s.buf.size (s.cur + r.length) with ht | hf
      · cases hrc : s.rc with
        | false =>
          refine .inl ⟨hc, 1, dataRecord b (addressOf s.base s.cur), le_refl _, by omega, ?_, rfl, hb1.symm, rfl,
            by omega⟩
          rw [stepRun_truncated hr hc hb hrow ht, truncate_data hrc]
          rfl
        | true =>
          exact .inr ⟨hc, rfl, _, by rw [stepRun_truncated hr hc hb hrow ht, truncate_error hrc]⟩
      · exact .inl ⟨hc, r.length, _, h1, h3, stepRun_fits hr hc hb hrow hf, rfl, rfl,
          by show (s.buf.readBytes s.cur r.length).length = _; rw [Memory.readBytes_length]; omega, hf⟩

end Sys2Proof.Machine
end

