-- ==== Sys2Proof/Machine/Listing.lean ====
section
/-! DEFINITION. The four fields of a printed listing line (R78). How they are laid out is the caller's parameter
LISTING_FORMAT (R7); the layout of the spec's own examples is given beside it. -/

namespace Sys2Proof.Machine

/-- The fields of a listing line, in R78's order. -/
structure ListingFields where
  address : Text
  bytes : Text
  mnemonic : Text
  operand : Text
deriving DecidableEq, Repr

/-- Bytes in hex, separated by spaces. -/
def hexBytes : List Byte → Text
  | [] => []
  | [b] => hex2 b
  | b :: bs => hex2 b ++ " ".toList ++ hexBytes bs

/-- The operand field of a record: the formatted operand, or the byte of a data record. -/
def listingOperand (r : Record) : Text :=
  match r.kind with
  | .instr => fmt r.mode r.operandValue r.address
  | .data => "$".toList ++ hexBytes r.rawBytes

/-- The fields of a record's line (R78). -/
def listingFields (r : Record) : ListingFields :=
  { address := hex4 r.address, bytes := hexBytes r.rawBytes, mnemonic := r.mnemonic, operand := listingOperand r }

/-- A listing line in the caller's layout LISTING_FORMAT (R7, R78). -/
def listingLine (format : ListingFields → Text) (r : Record) : Text := format (listingFields r)

/-- The layout of the spec's examples (R78): address, two spaces, the bytes, two spaces, mnemonic and operand. -/
def exampleFormat (f : ListingFields) : Text :=
  f.address ++ "  ".toList ++ f.bytes ++ "  ".toList ++ f.mnemonic ++
    (if f.operand = [] then [] else " ".toList ++ f.operand)

end Sys2Proof.Machine
end

