-- ==== Sys2Proof/Tests/Slice0.lean ====
section
/-! SUPPORT. Tests. Each expected value is the spec's: the encodings of opcode_table.json, the vectors of
95_test_vectors.md, and hand calculation from the rules named. -/

namespace Sys2Proof.Tests

open Sys2Proof.Machine Sys2Proof.Claims

/-- A run in progress at offset `cur` of `bytes`, ending at `en`, with base 0x8000. -/
def ready (bytes : List Byte) (cur en : Nat) (rc : Bool) : State :=
  { State.reset with
    status := .running, cur := cur, endOff := en, base := 0x8000, ctrl := ctrlOf rc, written := true
    buf := Memory.load bytes }

/-- A buffer and no run. -/
def idle (bytes : List Byte) : State := { State.reset with buf := Memory.load bytes }

/-- One STEP at offset 0 of `bytes`: the cursor after it, and the record's mode, operand value and text. -/
def shows (bytes : List Byte) (len : Nat) (mode : Mode) (v : Option Word) (text : String) : Bool :=
  match stepRun (ready bytes 0 bytes.length true) with
  | .next t => decide (t.cur = len) && t.out.map (fun r => (r.rawBytes, r.address, r.mode, r.operandValue,
      r.renderedText)) == [(bytes.take len, 0x8000, mode, v, text.toList)]
  | _ => false

/-! ## WellFormed refuses an ill-formed term: `byte` of a defined opcode. -/

theorem test_wf_byte_of_defined_opcode : (Instr.byte 0xA9).wf = false := by decide
theorem test_wf_byte_of_undefined_byte : (Instr.byte 0xFF).wf = true := by decide
theorem test_wf_defined_opcode : (Instr.ldaImmediate 0xFF).wf = true := by decide
theorem test_wf_counts : undefinedBytes.length = 105 ∧ undefinedBytes.Nodup := by decide

/-! ## Decoding: every word of opcode_table.json, its `encoding` written out, with operand bytes 0x34 and 0x12. -/

theorem test_decode_0x : ∀ p ∈ (
   [([0b00000000], .brk), ([0b00000001, 0x34], .oraIndirectX 0x34), ([0b00000101, 0x34], .oraZeroPage 0x34),
    ([0b00000110, 0x34], .aslZeroPage 0x34), ([0b00001000], .php), ([0b00001001, 0x34], .oraImmediate 0x34),
    ([0b00001010], .aslAccumulator), ([0b00001101, 0x34, 0x12], .oraAbsolute 0x34 0x12),
    ([0b00001110, 0x34, 0x12], .aslAbsolute 0x34 0x12)] :
    List (List Byte × Instr)), decode p.1 = .ok (p.2, []) := by decide

theorem test_decode_1x : ∀ p ∈ (
   [([0b00010000, 0x34], .bpl 0x34), ([0b00010001, 0x34], .oraIndirectY 0x34),
    ([0b00010101, 0x34], .oraZeroPageX 0x34), ([0b00010110, 0x34], .aslZeroPageX 0x34), ([0b00011000], .clc),
    ([0b00011001, 0x34, 0x12], .oraAbsoluteY 0x34 0x12), ([0b00011101, 0x34, 0x12], .oraAbsoluteX 0x34 0x12),
    ([0b00011110, 0x34, 0x12], .aslAbsoluteX 0x34 0x12)] :
    List (List Byte × Instr)), decode p.1 = .ok (p.2, []) := by decide

theorem test_decode_2x : ∀ p ∈ (
   [([0b00100000, 0x34, 0x12], .jsrAbsolute 0x34 0x12), ([0b00100001, 0x34], .andIndirectX 0x34),
    ([0b00100100, 0x34], .bitZeroPage 0x34), ([0b00100101, 0x34], .andZeroPage 0x34),
    ([0b00100110, 0x34], .rolZeroPage 0x34), ([0b00101000], .plp), ([0b00101001, 0x34], .andImmediate 0x34),
    ([0b00101010], .rolAccumulator), ([0b00101100, 0x34, 0x12], .bitAbsolute 0x34 0x12),
    ([0b00101101, 0x34, 0x12], .andAbsolute 0x34 0x12), ([0b00101110, 0x34, 0x12], .rolAbsolute 0x34 0x12)] :
    List (List Byte × Instr)), decode p.1 = .ok (p.2, []) := by decide

theorem test_decode_3x : ∀ p ∈ (
   [([0b00110000, 0x34], .bmi 0x34), ([0b00110001, 0x34], .andIndirectY 0x34),
    ([0b00110101, 0x34], .andZeroPageX 0x34), ([0b00110110, 0x34], .rolZeroPageX 0x34), ([0b00111000], .sec),
    ([0b00111001, 0x34, 0x12], .andAbsoluteY 0x34 0x12), ([0b00111101, 0x34, 0x12], .andAbsoluteX 0x34 0x12),
    ([0b00111110, 0x34, 0x12], .rolAbsoluteX 0x34 0x12)] :
    List (List Byte × Instr)), decode p.1 = .ok (p.2, []) := by decide

theorem test_decode_4x : ∀ p ∈ (
   [([0b01000000], .rti), ([0b01000001, 0x34], .eorIndirectX 0x34), ([0b01000101, 0x34], .eorZeroPage 0x34),
    ([0b01000110, 0x34], .lsrZeroPage 0x34), ([0b01001000], .pha), ([0b01001001, 0x34], .eorImmediate 0x34),
    ([0b01001010], .lsrAccumulator), ([0b01001100, 0x34, 0x12], .jmpAbsolute 0x34 0x12),
    ([0b01001101, 0x34, 0x12], .eorAbsolute 0x34 0x12), ([0b01001110, 0x34, 0x12], .lsrAbsolute 0x34 0x12)] :
    List (List Byte × Instr)), decode p.1 = .ok (p.2, []) := by decide

theorem test_decode_5x : ∀ p ∈ (
   [([0b01010000, 0x34], .bvc 0x34), ([0b01010001, 0x34], .eorIndirectY 0x34),
    ([0b01010101, 0x34], .eorZeroPageX 0x34), ([0b01010110, 0x34], .lsrZeroPageX 0x34), ([0b01011000], .cli),
    ([0b01011001, 0x34, 0x12], .eorAbsoluteY 0x34 0x12), ([0b01011101, 0x34, 0x12], .eorAbsoluteX 0x34 0x12),
    ([0b01011110, 0x34, 0x12], .lsrAbsoluteX 0x34 0x12)] :
    List (List Byte × Instr)), decode p.1 = .ok (p.2, []) := by decide

theorem test_decode_6x : ∀ p ∈ (
   [([0b01100000], .rts), ([0b01100001, 0x34], .adcIndirectX 0x34), ([0b01100101, 0x34], .adcZeroPage 0x34),
    ([0b01100110, 0x34], .rorZeroPage 0x34), ([0b01101000], .pla), ([0b01101001, 0x34], .adcImmediate 0x34),
    ([0b01101010], .rorAccumulator), ([0b01101100, 0x34, 0x12], .jmpIndirect 0x34 0x12),
    ([0b01101101, 0x34, 0x12], .adcAbsolute 0x34 0x12), ([0b01101110, 0x34, 0x12], .rorAbsolute 0x34 0x12)] :
    List (List Byte × Instr)), decode p.1 = .ok (p.2, []) := by decide

theorem test_decode_7x : ∀ p ∈ (
   [([0b01110000, 0x34], .bvs 0x34), ([0b01110001, 0x34], .adcIndirectY 0x34),
    ([0b01110101, 0x34], .adcZeroPageX 0x34), ([0b01110110, 0x34], .rorZeroPageX 0x34), ([0b01111000], .sei),
    ([0b01111001, 0x34, 0x12], .adcAbsoluteY 0x34 0x12), ([0b01111101, 0x34, 0x12], .adcAbsoluteX 0x34 0x12),
    ([0b01111110, 0x34, 0x12], .rorAbsoluteX 0x34 0x12)] :
    List (List Byte × Instr)), decode p.1 = .ok (p.2, []) := by decide

theorem test_decode_8x : ∀ p ∈ (
   [([0b10000001, 0x34], .staIndirectX 0x34), ([0b10000100, 0x34], .styZeroPage 0x34),
    ([0b10000101, 0x34], .staZeroPage 0x34), ([0b10000110, 0x34], .stxZeroPage 0x34), ([0b10001000], .dey),
    ([0b10001010], .txa), ([0b10001100, 0x34, 0x12], .styAbsolute 0x34 0x12),
    ([0b10001101, 0x34, 0x12], .staAbsolute 0x34 0x12), ([0b10001110, 0x34, 0x12], .stxAbsolute 0x34 0x12)] :
    List (List Byte × Instr)), decode p.1 = .ok (p.2, []) := by decide

theorem test_decode_9x : ∀ p ∈ (
   [([0b10010000, 0x34], .bcc 0x34), ([0b10010001, 0x34], .staIndirectY 0x34),
    ([0b10010100, 0x34], .styZeroPageX 0x34), ([0b10010101, 0x34], .staZeroPageX 0x34),
    ([0b10010110, 0x34], .stxZeroPageY 0x34), ([0b10011000], .tya),
    ([0b10011001, 0x34, 0x12], .staAbsoluteY 0x34 0x12), ([0b10011010], .txs),
    ([0b10011101, 0x34, 0x12], .staAbsoluteX 0x34 0x12)] :
    List (List Byte × Instr)), decode p.1 = .ok (p.2, []) := by decide

theorem test_decode_Ax : ∀ p ∈ (
   [([0b10100000, 0x34], .ldyImmediate 0x34), ([0b10100001, 0x34], .ldaIndirectX 0x34),
    ([0b10100010, 0x34], .ldxImmediate 0x34), ([0b10100100, 0x34], .ldyZeroPage 0x34),
    ([0b10100101, 0x34], .ldaZeroPage 0x34), ([0b10100110, 0x34], .ldxZeroPage 0x34), ([0b10101000], .tay),
    ([0b10101001, 0x34], .ldaImmediate 0x34), ([0b10101010], .tax),
    ([0b10101100, 0x34, 0x12], .ldyAbsolute 0x34 0x12), ([0b10101101, 0x34, 0x12], .ldaAbsolute 0x34 0x12),
    ([0b10101110, 0x34, 0x12], .ldxAbsolute 0x34 0x12)] :
    List (List Byte × Instr)), decode p.1 = .ok (p.2, []) := by decide

theorem test_decode_Bx : ∀ p ∈ (
   [([0b10110000, 0x34], .bcs 0x34), ([0b10110001, 0x34], .ldaIndirectY 0x34),
    ([0b10110100, 0x34], .ldyZeroPageX 0x34), ([0b10110101, 0x34], .ldaZeroPageX 0x34),
    ([0b10110110, 0x34], .ldxZeroPageY 0x34), ([0b10111000], .clv),
    ([0b10111001, 0x34, 0x12], .ldaAbsoluteY 0x34 0x12), ([0b10111010], .tsx),
    ([0b10111100, 0x34, 0x12], .ldyAbsoluteX 0x34 0x12), ([0b10111101, 0x34, 0x12], .ldaAbsoluteX 0x34 0x12),
    ([0b10111110, 0x34, 0x12], .ldxAbsoluteY 0x34 0x12)] :
    List (List Byte × Instr)), decode p.1 = .ok (p.2, []) := by decide

theorem test_decode_Cx : ∀ p ∈ (
   [([0b11000000, 0x34], .cpyImmediate 0x34), ([0b11000001, 0x34], .cmpIndirectX 0x34),
    ([0b11000100, 0x34], .cpyZeroPage 0x34), ([0b11000101, 0x34], .cmpZeroPage 0x34),
    ([0b11000110, 0x34], .decZeroPage 0x34), ([0b11001000], .iny), ([0b11001001, 0x34], .cmpImmediate 0x34),
    ([0b11001010], .dex), ([0b11001100, 0x34, 0x12], .cpyAbsolute 0x34 0x12),
    ([0b11001101, 0x34, 0x12], .cmpAbsolute 0x34 0x12), ([0b11001110, 0x34, 0x12], .decAbsolute 0x34 0x12)] :
    List (List Byte × Instr)), decode p.1 = .ok (p.2, []) := by decide

theorem test_decode_Dx : ∀ p ∈ (
   [([0b11010000, 0x34], .bne 0x34), ([0b11010001, 0x34], .cmpIndirectY 0x34),
    ([0b11010101, 0x34], .cmpZeroPageX 0x34), ([0b11010110, 0x34], .decZeroPageX 0x34), ([0b11011000], .cld),
    ([0b11011001, 0x34, 0x12], .cmpAbsoluteY 0x34 0x12), ([0b11011101, 0x34, 0x12], .cmpAbsoluteX 0x34 0x12),
    ([0b11011110, 0x34, 0x12], .decAbsoluteX 0x34 0x12)] :
    List (List Byte × Instr)), decode p.1 = .ok (p.2, []) := by decide

theorem test_decode_Ex : ∀ p ∈ (
   [([0b11100000, 0x34], .cpxImmediate 0x34), ([0b11100001, 0x34], .sbcIndirectX 0x34),
    ([0b11100100, 0x34], .cpxZeroPage 0x34), ([0b11100101, 0x34], .sbcZeroPage 0x34),
    ([0b11100110, 0x34], .incZeroPage 0x34), ([0b11101000], .inx), ([0b11101001, 0x34], .sbcImmediate 0x34),
    ([0b11101010], .nop), ([0b11101100, 0x34, 0x12], .cpxAbsolute 0x34 0x12),
    ([0b11101101, 0x34, 0x12], .sbcAbsolute 0x34 0x12), ([0b11101110, 0x34, 0x12], .incAbsolute 0x34 0x12)] :
    List (List Byte × Instr)), decode p.1 = .ok (p.2, []) := by decide

theorem test_decode_Fx : ∀ p ∈ (
   [([0b11110000, 0x34], .beq 0x34), ([0b11110001, 0x34], .sbcIndirectY 0x34),
    ([0b11110101, 0x34], .sbcZeroPageX 0x34), ([0b11110110, 0x34], .incZeroPageX 0x34), ([0b11111000], .sed),
    ([0b11111001, 0x34, 0x12], .sbcAbsoluteY 0x34 0x12), ([0b11111101, 0x34, 0x12], .sbcAbsoluteX 0x34 0x12),
    ([0b11111110, 0x34, 0x12], .incAbsoluteX 0x34 0x12)] :
    List (List Byte × Instr)), decode p.1 = .ok (p.2, []) := by decide

theorem test_decode_undefined : ∀ b ∈ undefinedBytes, decode [b, 0x34] = .ok (.byte b, [0x34]) := by decide

theorem test_decode_truncated : decode [0x4C, 0x00] = .error (.truncated 0x4C 3) ∧
    decode [0xA9] = .error (.truncated 0xA9 2) ∧ decode [] = .error .noBytes := by decide

theorem test_decodeTableWord : decodeTableWord 24 0x1234AD = some (.ldaAbsolute 0x34 0x12) ∧
    decodeTableWord 16 0xFED0 = some (.bne 0xFE) ∧ decodeTableWord 8 0xEA = some .nop ∧
    decodeTableWord 8 0xAD = some (.ldaAbsolute 0 0) ∧ decodeTableWord 8 0xFF = some (.byte 0xFF) := by decide

/-! ## One record of every defined opcode (V-ALL-1 to V-ALL-151). -/

theorem test_record_loads1 : ∀ p ∈ (
   [([0xA1, 0x12, 0xEA], 2, .indirectX, some 0x12, "LDA ($12,X)"),
    ([0xA5, 0x12, 0xEA], 2, .zeroPage, some 0x12, "LDA $12"),
    ([0xA9, 0x12, 0xEA], 2, .immediate, some 0x12, "LDA #$12"),
    ([0xAD, 0x12, 0x34, 0xEA], 3, .absolute, some 0x3412, "LDA $3412"),
    ([0xB1, 0x12, 0xEA], 2, .indirectY, some 0x12, "LDA ($12),Y"),
    ([0xB5, 0x12, 0xEA], 2, .zeroPageX, some 0x12, "LDA $12,X"),
    ([0xB9, 0x12, 0x34, 0xEA], 3, .absoluteY, some 0x3412, "LDA $3412,Y"),
    ([0xBD, 0x12, 0x34, 0xEA], 3, .absoluteX, some 0x3412, "LDA $3412,X"),
    ([0xA2, 0x12, 0xEA], 2, .immediate, some 0x12, "LDX #$12"),
    ([0xA6, 0x12, 0xEA], 2, .zeroPage, some 0x12, "LDX $12"),
    ([0xAE, 0x12, 0x34, 0xEA], 3, .absolute, some 0x3412, "LDX $3412"),
    ([0xB6, 0x12, 0xEA], 2, .zeroPageY, some 0x12, "LDX $12,Y"),
    ([0xBE, 0x12, 0x34, 0xEA], 3, .absoluteY, some 0x3412, "LDX $3412,Y"),
    ([0xA0, 0x12, 0xEA], 2, .immediate, some 0x12, "LDY #$12"),
    ([0xA4, 0x12, 0xEA], 2, .zeroPage, some 0x12, "LDY $12"),
    ([0xAC, 0x12, 0x34, 0xEA], 3, .absolute, some 0x3412, "LDY $3412"),
    ([0xB4, 0x12, 0xEA], 2, .zeroPageX, some 0x12, "LDY $12,X"),
    ([0xBC, 0x12, 0x34, 0xEA], 3, .absoluteX, some 0x3412, "LDY $3412,X"),
    ([0x81, 0x12, 0xEA], 2, .indirectX, some 0x12, "STA ($12,X)"),
    ([0x85, 0x12, 0xEA], 2, .zeroPage, some 0x12, "STA $12"),
    ([0x8D, 0x12, 0x34, 0xEA], 3, .absolute, some 0x3412, "STA $3412"),
    ([0x91, 0x12, 0xEA], 2, .indirectY, some 0x12, "STA ($12),Y"),
    ([0x95, 0x12, 0xEA], 2, .zeroPageX, some 0x12, "STA $12,X"),
    ([0x99, 0x12, 0x34, 0xEA], 3, .absoluteY, some 0x3412, "STA $3412,Y"),
    ([0x9D, 0x12, 0x34, 0xEA], 3, .absoluteX, some 0x3412, "STA $3412,X"),
    ([0x86, 0x12, 0xEA], 2, .zeroPage, some 0x12, "STX $12"),
    ([0x8E, 0x12, 0x34, 0xEA], 3, .absolute, some 0x3412, "STX $3412"),
    ([0x96, 0x12, 0xEA], 2, .zeroPageY, some 0x12, "STX $12,Y")] :
    List (List Byte × Nat × Mode × Option Word × String)), shows p.1 p.2.1 p.2.2.1 p.2.2.2.1 p.2.2.2.2 = true := by decide

theorem test_record_loads2 : ∀ p ∈ (
   [([0x84, 0x12, 0xEA], 2, .zeroPage, some 0x12, "STY $12"),
    ([0x8C, 0x12, 0x34, 0xEA], 3, .absolute, some 0x3412, "STY $3412"),
    ([0x94, 0x12, 0xEA], 2, .zeroPageX, some 0x12, "STY $12,X"), ([0xAA, 0xEA], 1, .implied, none, "TAX"),
    ([0xA8, 0xEA], 1, .implied, none, "TAY"), ([0x8A, 0xEA], 1, .implied, none, "TXA"),
    ([0x98, 0xEA], 1, .implied, none, "TYA"), ([0xBA, 0xEA], 1, .implied, none, "TSX"),
    ([0x9A, 0xEA], 1, .implied, none, "TXS")] :
    List (List Byte × Nat × Mode × Option Word × String)), shows p.1 p.2.1 p.2.2.1 p.2.2.2.1 p.2.2.2.2 = true := by decide

theorem test_record_arithmetic1 : ∀ p ∈ (
   [([0x61, 0x12, 0xEA], 2, .indirectX, some 0x12, "ADC ($12,X)"),
    ([0x65, 0x12, 0xEA], 2, .zeroPage, some 0x12, "ADC $12"),
    ([0x69, 0x12, 0xEA], 2, .immediate, some 0x12, "ADC #$12"),
    ([0x6D, 0x12, 0x34, 0xEA], 3, .absolute, some 0x3412, "ADC $3412"),
    ([0x71, 0x12, 0xEA], 2, .indirectY, some 0x12, "ADC ($12),Y"),
    ([0x75, 0x12, 0xEA], 2, .zeroPageX, some 0x12, "ADC $12,X"),
    ([0x79, 0x12, 0x34, 0xEA], 3, .absoluteY, some 0x3412, "ADC $3412,Y"),
    ([0x7D, 0x12, 0x34, 0xEA], 3, .absoluteX, some 0x3412, "ADC $3412,X"),
    ([0xE1, 0x12, 0xEA], 2, .indirectX, some 0x12, "SBC ($12,X)"),
    ([0xE5, 0x12, 0xEA], 2, .zeroPage, some 0x12, "SBC $12"),
    ([0xE9, 0x12, 0xEA], 2, .immediate, some 0x12, "SBC #$12"),
    ([0xED, 0x12, 0x34, 0xEA], 3, .absolute, some 0x3412, "SBC $3412"),
    ([0xF1, 0x12, 0xEA], 2, .indirectY, some 0x12, "SBC ($12),Y"),
    ([0xF5, 0x12, 0xEA], 2, .zeroPageX, some 0x12, "SBC $12,X"),
    ([0xF9, 0x12, 0x34, 0xEA], 3, .absoluteY, some 0x3412, "SBC $3412,Y"),
    ([0xFD, 0x12, 0x34, 0xEA], 3, .absoluteX, some 0x3412, "SBC $3412,X"),
    ([0x21, 0x12, 0xEA], 2, .indirectX, some 0x12, "AND ($12,X)"),
    ([0x25, 0x12, 0xEA], 2, .zeroPage, some 0x12, "AND $12"),
    ([0x29, 0x12, 0xEA], 2, .immediate, some 0x12, "AND #$12"),
    ([0x2D, 0x12, 0x34, 0xEA], 3, .absolute, some 0x3412, "AND $3412"),
    ([0x31, 0x12, 0xEA], 2, .indirectY, some 0x12, "AND ($12),Y"),
    ([0x35, 0x12, 0xEA], 2, .zeroPageX, some 0x12, "AND $12,X"),
    ([0x39, 0x12, 0x34, 0xEA], 3, .absoluteY, some 0x3412, "AND $3412,Y"),
    ([0x3D, 0x12, 0x34, 0xEA], 3, .absoluteX, some 0x3412, "AND $3412,X"),
    ([0x01, 0x12, 0xEA], 2, .indirectX, some 0x12, "ORA ($12,X)"),
    ([0x05, 0x12, 0xEA], 2, .zeroPage, some 0x12, "ORA $12"),
    ([0x09, 0x12, 0xEA], 2, .immediate, some 0x12, "ORA #$12"),
    ([0x0D, 0x12, 0x34, 0xEA], 3, .absolute, some 0x3412, "ORA $3412")] :
    List (List Byte × Nat × Mode × Option Word × String)), shows p.1 p.2.1 p.2.2.1 p.2.2.2.1 p.2.2.2.2 = true := by decide

theorem test_record_arithmetic2 : ∀ p ∈ (
   [([0x11, 0x12, 0xEA], 2, .indirectY, some 0x12, "ORA ($12),Y"),
    ([0x15, 0x12, 0xEA], 2, .zeroPageX, some 0x12, "ORA $12,X"),
    ([0x19, 0x12, 0x34, 0xEA], 3, .absoluteY, some 0x3412, "ORA $3412,Y"),
    ([0x1D, 0x12, 0x34, 0xEA], 3, .absoluteX, some 0x3412, "ORA $3412,X"),
    ([0x41, 0x12, 0xEA], 2, .indirectX, some 0x12, "EOR ($12,X)"),
    ([0x45, 0x12, 0xEA], 2, .zeroPage, some 0x12, "EOR $12"),
    ([0x49, 0x12, 0xEA], 2, .immediate, some 0x12, "EOR #$12"),
    ([0x4D, 0x12, 0x34, 0xEA], 3, .absolute, some 0x3412, "EOR $3412"),
    ([0x51, 0x12, 0xEA], 2, .indirectY, some 0x12, "EOR ($12),Y"),
    ([0x55, 0x12, 0xEA], 2, .zeroPageX, some 0x12, "EOR $12,X"),
    ([0x59, 0x12, 0x34, 0xEA], 3, .absoluteY, some 0x3412, "EOR $3412,Y"),
    ([0x5D, 0x12, 0x34, 0xEA], 3, .absoluteX, some 0x3412, "EOR $3412,X"),
    ([0xC1, 0x12, 0xEA], 2, .indirectX, some 0x12, "CMP ($12,X)"),
    ([0xC5, 0x12, 0xEA], 2, .zeroPage, some 0x12, "CMP $12"),
    ([0xC9, 0x12, 0xEA], 2, .immediate, some 0x12, "CMP #$12"),
    ([0xCD, 0x12, 0x34, 0xEA], 3, .absolute, some 0x3412, "CMP $3412"),
    ([0xD1, 0x12, 0xEA], 2, .indirectY, some 0x12, "CMP ($12),Y"),
    ([0xD5, 0x12, 0xEA], 2, .zeroPageX, some 0x12, "CMP $12,X"),
    ([0xD9, 0x12, 0x34, 0xEA], 3, .absoluteY, some 0x3412, "CMP $3412,Y"),
    ([0xDD, 0x12, 0x34, 0xEA], 3, .absoluteX, some 0x3412, "CMP $3412,X"),
    ([0xE0, 0x12, 0xEA], 2, .immediate, some 0x12, "CPX #$12"),
    ([0xE4, 0x12, 0xEA], 2, .zeroPage, some 0x12, "CPX $12"),
    ([0xEC, 0x12, 0x34, 0xEA], 3, .absolute, some 0x3412, "CPX $3412"),
    ([0xC0, 0x12, 0xEA], 2, .immediate, some 0x12, "CPY #$12"),
    ([0xC4, 0x12, 0xEA], 2, .zeroPage, some 0x12, "CPY $12"),
    ([0xCC, 0x12, 0x34, 0xEA], 3, .absolute, some 0x3412, "CPY $3412"),
    ([0x24, 0x12, 0xEA], 2, .zeroPage, some 0x12, "BIT $12"),
    ([0x2C, 0x12, 0x34, 0xEA], 3, .absolute, some 0x3412, "BIT $3412")] :
    List (List Byte × Nat × Mode × Option Word × String)), shows p.1 p.2.1 p.2.2.1 p.2.2.2.1 p.2.2.2.2 = true := by decide

theorem test_record_shifts1 : ∀ p ∈ (
   [([0x06, 0x12, 0xEA], 2, .zeroPage, some 0x12, "ASL $12"), ([0x0A, 0xEA], 1, .accumulator, none, "ASL"),
    ([0x0E, 0x12, 0x34, 0xEA], 3, .absolute, some 0x3412, "ASL $3412"),
    ([0x16, 0x12, 0xEA], 2, .zeroPageX, some 0x12, "ASL $12,X"),
    ([0x1E, 0x12, 0x34, 0xEA], 3, .absoluteX, some 0x3412, "ASL $3412,X"),
    ([0x46, 0x12, 0xEA], 2, .zeroPage, some 0x12, "LSR $12"), ([0x4A, 0xEA], 1, .accumulator, none, "LSR"),
    ([0x4E, 0x12, 0x34, 0xEA], 3, .absolute, some 0x3412, "LSR $3412"),
    ([0x56, 0x12, 0xEA], 2, .zeroPageX, some 0x12, "LSR $12,X"),
    ([0x5E, 0x12, 0x34, 0xEA], 3, .absoluteX, some 0x3412, "LSR $3412,X"),
    ([0x26, 0x12, 0xEA], 2, .zeroPage, some 0x12, "ROL $12"), ([0x2A, 0xEA], 1, .accumulator, none, "ROL"),
    ([0x2E, 0x12, 0x34, 0xEA], 3, .absolute, some 0x3412, "ROL $3412"),
    ([0x36, 0x12, 0xEA], 2, .zeroPageX, some 0x12, "ROL $12,X"),
    ([0x3E, 0x12, 0x34, 0xEA], 3, .absoluteX, some 0x3412, "ROL $3412,X"),
    ([0x66, 0x12, 0xEA], 2, .zeroPage, some 0x12, "ROR $12"), ([0x6A, 0xEA], 1, .accumulator, none, "ROR"),
    ([0x6E, 0x12, 0x34, 0xEA], 3, .absolute, some 0x3412, "ROR $3412"),
    ([0x76, 0x12, 0xEA], 2, .zeroPageX, some 0x12, "ROR $12,X"),
    ([0x7E, 0x12, 0x34, 0xEA], 3, .absoluteX, some 0x3412, "ROR $3412,X"),
    ([0xE6, 0x12, 0xEA], 2, .zeroPage, some 0x12, "INC $12"),
    ([0xEE, 0x12, 0x34, 0xEA], 3, .absolute, some 0x3412, "INC $3412"),
    ([0xF6, 0x12, 0xEA], 2, .zeroPageX, some 0x12, "INC $12,X"),
    ([0xFE, 0x12, 0x34, 0xEA], 3, .absoluteX, some 0x3412, "INC $3412,X"),
    ([0xC6, 0x12, 0xEA], 2, .zeroPage, some 0x12, "DEC $12"),
    ([0xCE, 0x12, 0x34, 0xEA], 3, .absolute, some 0x3412, "DEC $3412"),
    ([0xD6, 0x12, 0xEA], 2, .zeroPageX, some 0x12, "DEC $12,X"),
    ([0xDE, 0x12, 0x34, 0xEA], 3, .absoluteX, some 0x3412, "DEC $3412,X")] :
    List (List Byte × Nat × Mode × Option Word × String)), shows p.1 p.2.1 p.2.2.1 p.2.2.2.1 p.2.2.2.2 = true := by decide

theorem test_record_shifts2 : ∀ p ∈ (
   [([0xE8, 0xEA], 1, .implied, none, "INX"), ([0xC8, 0xEA], 1, .implied, none, "INY"),
    ([0xCA, 0xEA], 1, .implied, none, "DEX"), ([0x88, 0xEA], 1, .implied, none, "DEY")] :
    List (List Byte × Nat × Mode × Option Word × String)), shows p.1 p.2.1 p.2.2.1 p.2.2.2.1 p.2.2.2.2 = true := by decide

theorem test_record_control1 : ∀ p ∈ (
   [([0x10, 0x12, 0xEA], 2, .relative, some 0x12, "BPL $8014"),
    ([0x30, 0x12, 0xEA], 2, .relative, some 0x12, "BMI $8014"),
    ([0x50, 0x12, 0xEA], 2, .relative, some 0x12, "BVC $8014"),
    ([0x70, 0x12, 0xEA], 2, .relative, some 0x12, "BVS $8014"),
    ([0x90, 0x12, 0xEA], 2, .relative, some 0x12, "BCC $8014"),
    ([0xB0, 0x12, 0xEA], 2, .relative, some 0x12, "BCS $8014"),
    ([0xD0, 0x12, 0xEA], 2, .relative, some 0x12, "BNE $8014"),
    ([0xF0, 0x12, 0xEA], 2, .relative, some 0x12, "BEQ $8014"),
    ([0x4C, 0x12, 0x34, 0xEA], 3, .absolute, some 0x3412, "JMP $3412"),
    ([0x6C, 0x12, 0x34, 0xEA], 3, .indirect, some 0x3412, "JMP ($3412)"),
    ([0x20, 0x12, 0x34, 0xEA], 3, .absolute, some 0x3412, "JSR $3412"), ([0x60, 0xEA], 1, .implied, none, "RTS"),
    ([0x40, 0xEA], 1, .implied, none, "RTI"), ([0x00, 0xEA], 1, .implied, none, "BRK")] :
    List (List Byte × Nat × Mode × Option Word × String)), shows p.1 p.2.1 p.2.2.1 p.2.2.2.1 p.2.2.2.2 = true := by decide

theorem test_record_misc1 : ∀ p ∈ (
   [([0x48, 0xEA], 1, .implied, none, "PHA"), ([0x08, 0xEA], 1, .implied, none, "PHP"),
    ([0x68, 0xEA], 1, .implied, none, "PLA"), ([0x28, 0xEA], 1, .implied, none, "PLP"),
    ([0x18, 0xEA], 1, .implied, none, "CLC"), ([0x38, 0xEA], 1, .implied, none, "SEC"),
    ([0x58, 0xEA], 1, .implied, none, "CLI"), ([0x78, 0xEA], 1, .implied, none, "SEI"),
    ([0xB8, 0xEA], 1, .implied, none, "CLV"), ([0xD8, 0xEA], 1, .implied, none, "CLD"),
    ([0xF8, 0xEA], 1, .implied, none, "SED"), ([0xEA, 0xEA], 1, .implied, none, "NOP")] :
    List (List Byte × Nat × Mode × Option Word × String)), shows p.1 p.2.1 p.2.2.1 p.2.2.2.1 p.2.2.2.2 = true := by decide

/-- V-UND-1, on the first, the middle and the last undefined byte. -/
theorem test_record_undefined : shows [0x02, 0x12, 0x34] 1 .implied none ".byte $02" = true ∧
    shows [0x89, 0x12, 0x34] 1 .implied none ".byte $89" = true ∧
    shows [0xFF, 0x12, 0x34] 1 .implied none ".byte $FF" = true := by decide

/-! ## OPROM (V-ROM-1 to V-ROM-17, the counts of R74) -/

theorem test_rom_entries : lookup 0x00 = some ⟨.brk, .implied, 1⟩ ∧ lookup 0x0A = some ⟨.asl, .accumulator, 1⟩ ∧
    lookup 0x02 = none ∧ lookup 0x6C = some ⟨.jmp, .indirect, 3⟩ ∧ lookup 0x89 = none ∧
    lookup 0x96 = some ⟨.stx, .zeroPageY, 2⟩ ∧ lookup 0xB6 = some ⟨.ldx, .zeroPageY, 2⟩ ∧ lookup 0x9C = none ∧
    lookup 0xBE = some ⟨.ldx, .absoluteY, 3⟩ ∧ lookup 0x20 = some ⟨.jsr, .absolute, 3⟩ ∧
    lookup 0xEA = some ⟨.nop, .implied, 1⟩ ∧ lookup 0xFF = none ∧ lookup 0x80 = none ∧ lookup 0xCB = none := by decide

set_option maxRecDepth 8000 in
theorem test_rom_counts : opTable.length = 151 ∧ (opTable.map (·.opcode)).Nodup ∧
    (opTable.map (·.mnemonic)).dedup.length = 56 ∧
    [1, 2, 3].map (fun n => (opTable.filter (·.length = n)).length) = [29, 74, 48] := by decide

theorem test_rom_relative : (opTable.filter (·.mode = .relative)).map (·.opcode) =
    [0x10, 0x30, 0x50, 0x70, 0x90, 0xB0, 0xD0, 0xF0] := by decide

/-- The word of 0xA9 from R36, R37 and R29: V 1, MN 29 (LDA), MD 2 (Immediate), LN 2; an undefined byte's word is 0. -/
theorem test_rom_word : romWord 0xA9 = 0b1_011101_0010_10 ∧ romWord 0xFF = 0 := by decide

/-! ## FMT, render and the branch resolver (V-FMT, V-REN, V-REL) -/

theorem test_fmt : ∀ p ∈ (
   [(.implied, none, 0x8000, ""), (.accumulator, none, 0x8000, ""), (.immediate, some 0x00, 0x8000, "#$00"),
    (.immediate, some 0xFF, 0x8000, "#$FF"), (.immediate, some 0x0A, 0x8000, "#$0A"),
    (.zeroPage, some 0x00, 0x8000, "$00"), (.zeroPage, some 0xFF, 0x8000, "$FF"),
    (.zeroPageX, some 0x44, 0x8000, "$44,X"), (.zeroPageY, some 0x44, 0x8000, "$44,Y"),
    (.absolute, some 0x0000, 0x8000, "$0000"), (.absolute, some 0x00FF, 0x8000, "$00FF"),
    (.absolute, some 0xFFFF, 0x8000, "$FFFF"), (.absolute, some 0xABCD, 0x8000, "$ABCD"),
    (.absoluteX, some 0x0300, 0x8000, "$0300,X"), (.absoluteY, some 0x0300, 0x8000, "$0300,Y"),
    (.indirect, some 0x10FF, 0x8000, "($10FF)"), (.indirectX, some 0x20, 0x8000, "($20,X)"),
    (.indirectY, some 0x20, 0x8000, "($20),Y"), (.indirectX, some 0xFF, 0x8000, "($FF,X)"),
    (.indirectY, some 0x00, 0x8000, "($00),Y"), (.relative, some 0x00, 0x8000, "$8002"),
    (.relative, some 0xFE, 0x8010, "$8010")] :
    List (Mode × Option Word × Word × String)), fmt p.1 p.2.1 p.2.2.1 = p.2.2.2.toList := by decide

theorem test_render : ∀ p ∈ (
   [("NOP", .implied, none, 0x8000, "NOP"), ("ASL", .accumulator, none, 0x8000, "ASL"),
    ("LDA", .immediate, some 0x05, 0x8000, "LDA #$05"), ("JMP", .absolute, some 0x9000, 0x8000, "JMP $9000"),
    ("BPL", .relative, some 0xFE, 0x8010, "BPL $8010")] :
    List (String × Mode × Option Word × Word × String)),
    render p.1.toList p.2.1 p.2.2.1 p.2.2.2.1 = p.2.2.2.2.toList := by decide

theorem test_branch_target : ∀ p ∈ (
   [(0x8010, 0xFE, 0x8010, "BNE $8010"), (0x8000, 0x00, 0x8002, "BNE $8002"), (0x8000, 0x01, 0x8003, "BNE $8003"),
    (0x8000, 0x7F, 0x8081, "BNE $8081"), (0x8000, 0x80, 0x7F82, "BNE $7F82"), (0x8000, 0xFF, 0x8001, "BNE $8001"),
    (0x8000, 0xFD, 0x7FFF, "BNE $7FFF"), (0x8009, 0xF7, 0x8002, "BNE $8002"), (0xFFF0, 0x7F, 0x0071, "BNE $0071"),
    (0xFFFD, 0x00, 0xFFFF, "BNE $FFFF"), (0xFFFE, 0x00, 0x0000, "BNE $0000"), (0xFFFE, 0x01, 0x0001, "BNE $0001"),
    (0x0000, 0x80, 0xFF82, "BNE $FF82"), (0x0000, 0xFD, 0xFFFF, "BNE $FFFF"), (0x0050, 0xAE, 0x0000, "BNE $0000"),
    (0x0001, 0xFD, 0x0000, "BNE $0000")] :
    List (Word × Word × Word × String)),
    target p.1 p.2.1 = p.2.2.1 ∧ render (mnemonicText .bne) .relative (some p.2.1) p.1 = p.2.2.2.toList := by decide

/-- V-NRM-1 to V-NRM-5, with V-NRM-26. -/
theorem test_normalize_1 : ∀ p ∈ (
   [("LDA $0300", "LDA $????"), ("LDA $9000", "LDA $????"), ("LDA #$05", "LDA #$05"),
    ("STA $0200,X", "STA $????,X"), ("LDX $0300,Y", "LDX $????,Y")] :
    List (String × String)), Machine.normalize p.1.toList = p.2.toList ∧
      Machine.normalize (Machine.normalize p.1.toList) = p.2.toList := by decide

/-- V-NRM-6 to V-NRM-10, with V-NRM-26. -/
theorem test_normalize_2 : ∀ p ∈ (
   [("JMP $C000", "JMP $????"), ("JSR $8123", "JSR $????"), ("BIT $2002", "BIT $????"), ("INC $0400", "INC $????"),
    ("ASL $0400", "ASL $????")] :
    List (String × String)), Machine.normalize p.1.toList = p.2.toList ∧
      Machine.normalize (Machine.normalize p.1.toList) = p.2.toList := by decide

/-- V-NRM-11 to V-NRM-15, with V-NRM-26. -/
theorem test_normalize_3 : ∀ p ∈ (
   [("CPX $1234", "CPX $????"), ("LDA $44", "LDA $44"), ("LDA $44,X", "LDA $44,X"), ("JMP ($FFFC)", "JMP ($FFFC)"),
    ("LDA ($20,X)", "LDA ($20,X)")] :
    List (String × String)), Machine.normalize p.1.toList = p.2.toList ∧
      Machine.normalize (Machine.normalize p.1.toList) = p.2.toList := by decide

/-- V-NRM-16 to V-NRM-20, with V-NRM-26. -/
theorem test_normalize_4 : ∀ p ∈ (
   [("LDA ($20),Y", "LDA ($20),Y"), ("BNE $8010", "BNE $8010"), ("NOP", "NOP"), ("ASL", "ASL"),
    (".byte $FF", ".byte $FF")] :
    List (String × String)), Machine.normalize p.1.toList = p.2.toList ∧
      Machine.normalize (Machine.normalize p.1.toList) = p.2.toList := by decide

/-- V-NRM-21 to V-NRM-25, with V-NRM-26. -/
theorem test_normalize_5 : ∀ p ∈ (
   [("LDA $abcd", "LDA $abcd"), ("LDA $????", "LDA $????"), ("LDA $12345", "LDA $12345"),
    (" LDA $0300", " LDA $0300"), ("TXS", "TXS")] :
    List (String × String)), Machine.normalize p.1.toList = p.2.toList ∧
      Machine.normalize (Machine.normalize p.1.toList) = p.2.toList := by decide

/-! ## STEP and START (V-TR, V-RG, V-AD): one operation each -/

/-- V-TR-1: a 2-byte opcode at `N - 1` with `RC = 1`. -/
theorem test_truncated : stepRun (ready [0xEA, 0xA9] 1 2 true) = .next { ready [0xEA, 0xA9] 1 2 true with
    status := .truncated, errInfo := .truncated 1 0xA9 2 1 } := rfl

/-- V-TR-3: a 3-byte opcode at `N - 2` with `RC = 1`. -/
theorem test_truncated_three : stepRun (ready [0x4C, 0x00] 0 2 true) = .next { ready [0x4C, 0x00] 0 2 true with
    status := .truncated, errInfo := .truncated 0 0x4C 3 2 } := rfl

/-- V-TR-4: the same bytes with `RC = 0`. -/
theorem test_truncated_as_data : stepRun (ready [0x4C, 0x00] 0 2 false) = .next { ready [0x4C, 0x00] 0 2 false with
    cur := 1, out := [dataRecord 0x4C 0x8000] } := rfl

/-- V-TR-7: an undefined byte at `N - 1` is never truncated. -/
theorem test_undefined_at_end : stepRun (ready [0xA9, 0x01, 0xFF] 2 3 true) =
    .next { ready [0xA9, 0x01, 0xFF] 2 3 true with cur := 3, out := [dataRecord 0xFF 0x8002] } := rfl

/-- V-TR-8: the instruction straddles END and is emitted whole. -/
theorem test_straddles_end : (match stepRun (ready [0x4C, 0x00, 0x90] 0 1 true) with
    | .next t => (t.cur, t.endOff, t.status, t.out.map (·.renderedText))
    | _ => (0, 0, .idle, [])) = (3, 1, .running, ["JMP $9000".toList]) := by decide

/-- V-RG-1 to V-RG-4: what START refuses, and with which cause. -/
theorem test_start_refused :
    [(idle [0xEA, 0xEA], 2, 2), (idle [0xEA, 0xEA, 0xEA], 2, 1), (idle [0xEA, 0xEA], 5, 3), (idle [], 0, 0)].map
      (fun p => ((hostStart p.2.1 p.2.2 0x8000 none p.1).status, (hostStart p.2.1 p.2.2 0x8000 none p.1).errInfo)) =
    [(.invalidRange, .invalidRange .startPastEnd), (.invalidRange, .invalidRange .endBeforeStart),
     (.invalidRange, .invalidRange .startPastEnd), (.invalidRange, .invalidRange .startPastEnd)] := by decide

/-- V-RG-6, V-AD-2: END is clamped to `N`, BASE is reduced, and the default of `requireComplete` is 1. -/
theorem test_start_writes : hostStart 0 100 0x18000 none (idle [0xA9, 0x05, 0xEA]) =
    { ready [0xA9, 0x05, 0xEA] 0 3 true with base := 0x8000 } := by decide

/-- V-RG-5: an empty range ends at once. -/
theorem test_empty_range : stepRun (hostStart 1 1 0x8000 none (idle [0xEA, 0xEA])) =
    .next { ready [0xEA, 0xEA] 1 1 true with status := .done } := rfl

/-- V-RG-8: START during a run abandons it; the record stays with the host. -/
theorem test_start_abandons : hostStart 0 3 0xC000 none { ready [0xA9, 0x05, 0xEA] 2 3 true with
      out := [dataRecord 0x02 0x8000] } =
    { ready [0xA9, 0x05, 0xEA] 0 3 true with base := 0xC000, out := [dataRecord 0x02 0x8000] } := by decide

/-- V-AD-1: record addresses wrap past 0xFFFF; the bytes are read by offset. -/
theorem test_address_wraps :
    (match stepRun { ready [0xEA, 0xA9, 0x01, 0xEA, 0xEA] 3 5 true with base := 0xFFFE } with
    | .next t => t.out.map (fun r => (r.address, r.renderedText))
    | _ => []) = [(0x0001, "NOP".toList)] := by decide

/-- V-AD-3: a branch near the top of memory. -/
theorem test_branch_wraps : (match stepRun { ready [0xEA, 0xD0, 0x10] 1 3 true with base := 0xFFF0 } with
    | .next t => t.out.map (fun r => (r.address, r.renderedText))
    | _ => []) = [(0xFFF1, "BNE $0003".toList)] := by decide

/-- V-RG-10: after reset STEP is not enabled. -/
theorem test_reset_has_no_step : step State.reset = .fault .stepNotEnabled := rfl

/-- After reset STATUS and ERRINFO hold IDLE (code 0) and none, and the registers of a run hold no value (R40). -/
theorem test_reset_registers :
    [Reg.status, .cur, .endOff, .base, .ctrl, .errInfo].map (fun r => heldValue r State.reset) =
      [some (.code 0), none, none, none, none, some (.info .none)] := by decide

/-- A read of each register in a run (R20). -/
theorem test_read_registers : [Reg.status, .cur, .endOff, .base, .ctrl, .errInfo].map
      (fun r => readReg r (ready [0xA9, 0x05, 0xEA] 2 3 true)) =
    [.code 1, .offset 2, .offset 3, .address 0x8000, .bit 1, .info .none] := by decide

/-- The word of an opcode-table row runs as the first instruction after reset. -/
theorem test_withFetchWord : (match step (State.reset.withFetchWord 24 0x1234AD) with
    | .next t => t.out.map (fun r => (r.address, r.renderedText))
    | _ => []) = [(0x8000, "LDA $1234".toList)] := by decide

/-- The word goes to the cursor when a run is in progress. -/
theorem test_withFetchWord_running : (match step ((ready [0xEA] 1 1 true).withFetchWord 16 0xFED0) with
    | .next t => t.out.map (fun r => (r.address, r.renderedText))
    | _ => []) = [(0x8001, "BNE $8001".toList)] := by decide

/-- The example line of R78 for the bytes A9 05 at 0x8000, and a data record's line. -/
theorem test_listing :
    listingLine exampleFormat (instrRecord ⟨.lda, .immediate, 2⟩ [0xA9, 0x05] 0x8000) = "8000  A9 05  LDA #$05".toList ∧
    listingLine exampleFormat (dataRecord 0xFF 0x8002) = "8002  FF  .byte $FF".toList := by decide

/-- A byte written to the buffer reads back and leaves its neighbour; writing what an unlisted offset reads as removes
the cell. -/
theorem test_memory : ((Memory.load [1, 2, 3]).write 1 9).readBytes 0 4 = [1, 9, 3] ∧
    (Memory.load [1, 2, 3]).write 1 0 = ⟨3, [(0, 1), (2, 3)]⟩ ∧ (Memory.load [1, 2, 3]).read 3 = none := by decide

/-! ## A witness for the hypotheses of every obligation that has some -/

/-- TransfersAndStepsOfXYDecode, ReturnsAndBreakDecode, StackFlagAndNopInstructionsDecode, AccumulatorShiftsDecode: the
last byte of the buffer. -/
theorem witness_one_byte_instructions : (ready [0xEA] 0 1 true).cur < (ready [0xEA] 0 1 true).buf.size := by decide

/-- The statements of 2-byte instructions: ImmediateFormsDecode, ZeroPageLoadsStoresShiftsDecode, ZeroPageArithmeticDecodes,
ZeroPageXLoadsStoresArithmeticDecode, ZeroPageXShiftsDecode, ZeroPageYFormsDecode, IndirectXFormsDecode,
IndirectYFormsDecode, BranchesDecode. The last offset where one fits, and the first where it does not, with each RC. -/
theorem witness_two_byte_instructions :
    ((ready [0xEA, 0xA9, 0x05] 1 3 true).cur < 3 ∧ (ready [0xEA, 0xA9, 0x05] 1 3 true).buf.size = 3 ∧
      (ready [0xEA, 0xA9, 0x05] 1 3 true).cur + 2 = (ready [0xEA, 0xA9, 0x05] 1 3 true).buf.size) ∧
    ∀ rc ∈ [true, false], (ready [0xEA, 0xA9] 1 2 rc).cur < (ready [0xEA, 0xA9] 1 2 rc).buf.size ∧
      (ready [0xEA, 0xA9] 1 2 rc).buf.size + 1 = (ready [0xEA, 0xA9] 1 2 rc).cur + 2 ∧
      (ready [0xEA, 0xA9] 1 2 rc).ctrl = if rc then 1 else 0 := by decide

/-- The statements of 3-byte instructions: AbsoluteLoadsStoresJumpsDecode, AbsoluteArithmeticDecodes, AbsoluteShiftsDecode,
AbsoluteXLoadsStoresArithmeticDecode, AbsoluteXShiftsDecode, AbsoluteYFormsDecode, JumpIndirectDecodes. The last offset
where one fits, and the two where it does not, with each RC. -/
theorem witness_three_byte_instructions :
    (ready [0x4C, 0x00, 0x90] 0 3 true).cur + 3 = (ready [0x4C, 0x00, 0x90] 0 3 true).buf.size ∧
    ∀ rc ∈ [true, false], ∀ c ∈ [1, 2], (ready [0xEA, 0x4C, 0x4C] c 3 rc).cur < (ready [0xEA, 0x4C, 0x4C] c 3 rc).buf.size ∧
      (ready [0xEA, 0x4C, 0x4C] c 3 rc).buf.size < (ready [0xEA, 0x4C, 0x4C] c 3 rc).cur + 3 ∧
      (ready [0xEA, 0x4C, 0x4C] c 3 rc).ctrl = if rc then 1 else 0 := by decide

theorem witness_UnmappedByteBecomesDataRecord : (ready [0xFF] 0 1 true).status = .running ∧
    (ready [0xFF] 0 1 true).cur < (ready [0xFF] 0 1 true).endOff ∧
    (ready [0xFF] 0 1 true).buf.read (ready [0xFF] 0 1 true).cur = some 0xFF ∧ 0xFF ∈ undefinedBytes := by decide

theorem witness_RawDataInstructionDecodes : (Instr.byte 0x02).wf = true := by decide

theorem witness_StepRunsDecodedInstruction : MayStep (ready [0xA9, 0x05, 0xEA] 0 3 true) ∧
    (ready [0xA9, 0x05, 0xEA] 0 3 true).cur < (ready [0xA9, 0x05, 0xEA] 0 3 true).endOff ∧
    decode ((ready [0xA9, 0x05, 0xEA] 0 3 true).buf.readBytes 0 3) = .ok (.ldaImmediate 5, [0xEA]) := ⟨⟨rfl, rfl⟩, by decide, rfl⟩

theorem witness_StepRunsEncodedInstruction : (Instr.jmpAbsolute 0x00 0x90).wf = true ∧
    MayStep (ready [0x4C, 0x00, 0x90] 0 3 true) ∧
    (ready [0x4C, 0x00, 0x90] 0 3 true).cur < (ready [0x4C, 0x00, 0x90] 0 3 true).endOff ∧
    (ready [0x4C, 0x00, 0x90] 0 3 true).buf.readBytes 0 3 = encode (.jmpAbsolute 0x00 0x90) := ⟨rfl, ⟨rfl, rfl⟩, by decide, by decide⟩

theorem witness_DecodeInvertsEncode : (Instr.bne 0xFE).wf = true ∧ (Instr.byte 0xFF).wf = true := by decide

theorem witness_EncodeInvertsDecode : decode [0xA9, 0x05, 0xEA] = .ok (.ldaImmediate 5, [0xEA]) := by decide

theorem witness_StepIsTableDrivenStep : (ready [0xAD] 0 1 false).inbox = [] := by decide

theorem witness_StepKeepsInvariant : (ready [0xEA] 0 1 true).Inv ∧
    step (ready [0xEA] 0 1 true) = .next { ready [0xEA] 1 1 true with
      out := [instrRecord ⟨.nop, .implied, 1⟩ [0xEA] 0x8000] } := ⟨by decide, rfl⟩

/-- One range for each clause: at `N`, just below it with the end below the start, one byte, empty. -/
theorem witness_StartFollowsItsRule : (idle [0xEA, 0xEA]).buf.size ≤ 2 ∧
    (1 < (idle [0xEA, 0xEA]).buf.size ∧ 0 < 1) ∧ (1 < (idle [0xEA, 0xEA]).buf.size ∧ 1 ≤ 2) ∧
    1 < (idle [0xEA, 0xEA]).buf.size := by decide

theorem witness_StepNotEnabledOutsideRunning : State.reset.status ≠ .running := by decide

/-- One state for each clause of the checks of a STEP. -/
theorem witness_StepChecksInOrder :
    (ready [0xEA] 1 1 true).endOff ≤ (ready [0xEA] 1 1 true).cur ∧
    ((ready [0xFF] 0 1 true).cur < (ready [0xFF] 0 1 true).endOff ∧ (ready [0xFF] 0 1 true).buf.read 0 = some 0xFF ∧
      lookup 0xFF = none) ∧
    (∀ rc ∈ [true, false], (ready [0xA9] 0 1 rc).status = .running ∧ (ready [0xA9] 0 1 rc).buf.read 0 = some 0xA9 ∧
      lookup 0xA9 = some ⟨.lda, .immediate, 2⟩ ∧ (ready [0xA9] 0 1 rc).buf.size < 0 + 2 ∧
      (ready [0xA9] 0 1 rc).ctrl = if rc then 1 else 0) ∧
    (ready [0xA9, 0x05] 0 1 true).cur + 2 ≤ (ready [0xA9, 0x05] 0 1 true).buf.size := by decide

theorem witness_StraddlingInstructionEmittedWhole : (ready [0x4C, 0x00, 0x90] 0 1 true).status = .running ∧
    (ready [0x4C, 0x00, 0x90] 0 1 true).cur < (ready [0x4C, 0x00, 0x90] 0 1 true).endOff ∧
    (ready [0x4C, 0x00, 0x90] 0 1 true).buf.read 0 = some 0x4C ∧ lookup 0x4C = some ⟨.jmp, .absolute, 3⟩ ∧
    0 + 3 ≤ (ready [0x4C, 0x00, 0x90] 0 1 true).buf.size ∧ (ready [0x4C, 0x00, 0x90] 0 1 true).endOff < 0 + 3 := by decide

theorem witness_StepServesTheHost : (idle [0xEA]).inbox = [] ∧
    ({ idle [0xEA] with inbox := [.reset, .step] } : State).inbox = .reset :: [.step] := by decide

theorem witness_TruncationOnlyAtBufferEnd : (Memory.load [0xEA, 0x4C, 0x00]).read 1 = some 0x4C ∧
    lookup 0x4C = some ⟨.jmp, .absolute, 3⟩ ∧ (Memory.load [0xEA, 0x4C, 0x00]).size < 1 + 3 := by decide

theorem witness_TruncationIsPrecise : ∀ rc ∈ [true, false], (ready [0xA9] 0 1 rc).status = .running ∧
    (ready [0xA9] 0 1 rc).cur < (ready [0xA9] 0 1 rc).endOff ∧ (ready [0xA9] 0 1 rc).buf.read 0 = some 0xA9 ∧
    lookup 0xA9 = some ⟨.lda, .immediate, 2⟩ ∧ (ready [0xA9] 0 1 rc).buf.size < 0 + 2 ∧
    (ready [0xA9] 0 1 rc).ctrl = if rc then 1 else 0 := by decide

theorem witness_RunTerminates : stepRun (ready [0xFF] 0 1 true) = .next { ready [0xFF] 1 1 true with
      out := [dataRecord 0xFF 0x8000] } ∧ ([dataRecord 0xFF 0x8000] ≠ (ready [0xFF] 0 1 true).out) ∧
    ValidRange (idle [0xEA, 0xEA]) 1 100 := ⟨rfl, by decide, by decide, by decide⟩

theorem witness_RunDependsOnArguments : (idle [0xEA]).buf = (ready [0xEA] 1 1 false).buf := by decide

/-- RecordsCoverTheRange, RcZeroRunEndsDone: the last byte of the buffer, and an empty range. -/
theorem witness_valid_range : ValidRange (idle [0xEA, 0xEA]) 1 2 ∧ ValidRange (idle [0xEA, 0xEA]) 1 1 := by
  unfold ValidRange
  decide

/-- The last decoded offset is at 0xFFFF. -/
theorem witness_AddressesStrictlyIncrease : ValidRange (idle [0xEA, 0xEA]) 0 2 ∧
    (decodeRange 0 2 0xFFFE none (idle [0xEA, 0xEA])).out.length = 2 ∧
    ∀ o ∈ offsetsOf 0 (decodeRange 0 2 0xFFFE none (idle [0xEA, 0xEA])).out, 0xFFFE % 2 ^ 16 + o ≤ 0xFFFF := by
  unfold ValidRange
  decide

theorem witness_StepFrame : (ready [0xFF] 0 1 true).inbox = [] ∧
    step (ready [0xFF] 0 1 true) = .next { ready [0xFF] 1 1 true with out := [dataRecord 0xFF 0x8000] } := ⟨rfl, rfl⟩

theorem witness_OutputStreamIsAppendOnly :
    step (ready [0xFF] 0 1 true) = .next { ready [0xFF] 1 1 true with out := [dataRecord 0xFF 0x8000] } := rfl

theorem witness_RunningMachineAlwaysSteps : (ready [0xA9] 0 1 true).Inv ∧ MayStep (ready [0xA9] 0 1 true) := by
  unfold MayStep
  decide

theorem witness_AdjacentRunsCompose : ValidRange (idle [0xA9, 0x05, 0xEA]) 0 1 ∧ 1 ≤ 3 ∧
    (decodeRange 0 1 0x8000 none (idle [0xA9, 0x05, 0xEA])).status = .done ∧
    (decodeRange 0 1 0x8000 none (idle [0xA9, 0x05, 0xEA])).cur = 2 ∧ 2 < (idle [0xA9, 0x05, 0xEA]).buf.size ∧
    2 ≤ 3 := by
  unfold ValidRange
  decide

theorem witness_BranchTextDependsOnAddress : fmt .relative (some 0xFE) 0x8010 = fmt .relative (some 0xFE) 0x8010 := by
  decide

theorem witness_TwoByteOperandIsLittleEndian : operandBytes .indirect = 2 := by decide

/-- A text of the form that NORM rewrites, and one that is not. -/
theorem witness_NormalizeRewritesItsForm :
    HasNormForm ['L', 'D', 'X', ' ', '$', '0', '3', 'F', 'F', ',', 'Y'] ['L', 'D', 'X'] ['0', '3', 'F', 'F'] [',', 'Y'] ∧
    ∀ m ds sfx : Text, ¬ HasNormForm [] m ds sfx := by
  constructor
  · exact ⟨by simp [normMnemonics], rfl, by simp [digits16], by simp, rfl⟩
  · rintro m ds sfx ⟨-, hd, -, -, h⟩
    have := congrArg List.length h
    simp [hd] at this

/-- NormalizeOfRecordText, EqualAfterNormIffSameUpToAddress, DataTextIsNoInstructionText. -/
theorem witness_record_texts : lookup 0xAD = some ⟨.lda, .absolute, 3⟩ ∧ ([0xAD, 0x00, 0x03] : List Byte).length = 3 ∧
    lookup 0xEA = some ⟨.nop, .implied, 1⟩ ∧ ([0xEA] : List Byte).length = 1 := by decide

theorem witness_HostReadsRegisters : (ready [0xEA] 0 1 true).written = true ∧ State.reset.written = false ∧
    step { idle [0xEA] with inbox := [.start 0 1 0x8000 none] } = .next (ready [0xEA] 0 1 true) := ⟨rfl, rfl, rfl⟩

theorem witness_BufferChangesBetweenRunsOnly : (ready [0xEA] 0 1 true).status = .running ∧
    State.reset.status ≠ .running := by decide

theorem witness_EntryLengthFollowsMode : lookup 0x20 = some ⟨.jsr, .absolute, 3⟩ ∧ lookup 0x02 = none := by decide

/-- The lengths at both ends of the range. -/
theorem witness_RomWordsReadBack : (1 ≤ 1 ∧ 1 ≤ 3) ∧ (1 ≤ 3 ∧ 3 ≤ 3) := by decide

end Sys2Proof.Tests
end

section
/-! The records the block emits, and what one STEP can do in the terms of the invariant. -/

namespace Sys2Proof.Machine

/-- The data record of a byte is one the block emits (R105). -/
@[simp] theorem dataRecord_ok (b : Byte) (a : Word) : (dataRecord b a).ok = true := by
  simp [Record.ok, dataRecord]

/-- So is the record of a defined opcode with all its operand bytes (R31). -/
theorem instrRecord_ok {op : Byte} {rest : List Byte} {e : OpcodeEntry} (h : lookup op = some e)
    (hl : (op :: rest).length = e.length) (a : Word) : (instrRecord e (op :: rest) a).ok = true := by
  have hk : (instrRecord e (op :: rest) a).kind = .instr := rfl
  have hb : (instrRecord e (op :: rest) a).rawBytes = op :: rest := rfl
  have ha : (instrRecord e (op :: rest) a).address = a := rfl
  simp [Record.ok, hk, hb, ha, h, ← hl]

/-- The record of an instruction that lies whole in the buffer is one the block emits. -/
theorem instrRecord_readBytes_ok {m : Memory} {off : Nat} {b : Byte} {r : OpRow} (hb : m.read off = some b)
    (hrow : rowOf b = some r) (hfit : off + r.length ≤ m.size) (a : Word) :
    (instrRecord r.entry (m.readBytes off r.length) a).ok = true := by
  obtain ⟨n, hn⟩ : ∃ n, r.length = n + 1 := ⟨r.length - 1, by have := row_length hrow; omega⟩
  have hbytes : m.readBytes off r.length = b :: m.readBytes (off + 1) n := by simp [hn, Memory.readBytes, hb]
  have hlen : (m.readBytes off r.length).length = r.length := by
    rw [Memory.readBytes_length]
    omega
  rw [hbytes] at hlen ⊢
  exact instrRecord_ok (lookup_eq_some.mpr ⟨r, hrow, rfl⟩) hlen a

/-- A STEP that answers a next state ends the run, emits one record from inside the buffer and moves past it, or raises
the truncation of the opcode at the cursor. -/
theorem stepRun_effect {s s' : State} (h : stepRun s = .next s') :
    s.status = .running ∧
      (s' = s.finish ∨
        (∃ r n, s' = s.emit r n ∧ s.cur + n ≤ s.buf.size ∧ r.ok = true) ∨
        ∃ op need avail, s' = s.raise .truncated (.truncated s.cur op need avail) ∧ avail < need ∧
          (lookup op).map OpcodeEntry.length = some need) := by
  obtain ⟨hr, ⟨-, hfin⟩ | ⟨-, b, hb, hcases⟩⟩ := stepRun_cases h
  · exact ⟨hr, .inl hfin⟩
  refine ⟨hr, .inr ?_⟩
  have hcur : s.cur + 1 ≤ s.buf.size := Memory.read_isSome.mp (by simp [hb])
  have hdata : ∃ r n, emitData b s = s.emit r n ∧ s.cur + n ≤ s.buf.size ∧ r.ok = true :=
    ⟨_, _, rfl, hcur, dataRecord_ok b _⟩
  obtain ⟨-, rfl⟩ | ⟨r, hrow, ⟨hfit, rfl⟩ | ⟨hpast, rfl⟩⟩ := hcases
  · exact .inl hdata
  · exact .inl ⟨_, _, rfl, hfit, instrRecord_readBytes_ok hb hrow hfit _⟩
  · cases hrc : s.rc with
    | false => exact .inl (by rwa [truncate_data hrc])
    | true =>
      have hlen : (lookup b).map OpcodeEntry.length = some r.length := by simp [lookup, hrow, OpRow.entry]
      exact .inr ⟨b, r.length, _, truncate_error hrc, by omega, hlen⟩

/-- A step that answers a next state is a STEP, or one of the host's three other operations, on the state with the
operation taken off the host's list. -/
theorem step_effect {s s' : State} (h : step s = .next s') :
    ∃ rest, stepRun { s with inbox := rest } = .next s' ∨
      (s.status ≠ .running ∧ ∃ bs, s' = { s with buf := Memory.load bs, inbox := rest }) ∨
      (∃ st en base rc, s.inbox = .start st en base rc :: rest ∧ s' = hostStart st en base rc { s with inbox := rest }) ∨
      s' = hostReset { s with inbox := rest } := by
  cases hi : s.inbox with
  | nil =>
    rw [step_of_inbox_nil hi] at h
    exact ⟨s.inbox, .inl h⟩
  | cons op rest =>
    rw [step_of_inbox_cons hi] at h
    refine ⟨rest, ?_⟩
    cases op with
    | load bs =>
      by_cases hr : s.status = .running
      · simp [hostOp, hostLoad, hr] at h
      · exact .inr (.inl ⟨hr, bs, by simpa [hostOp, hostLoad, hr] using h.symm⟩)
    | start st en base rc =>
      injection h with h
      exact .inr (.inr (.inl ⟨st, en, base, rc, rfl, h.symm⟩))
    | step => exact .inl h
    | reset =>
      injection h with h
      exact .inr (.inr (.inr h.symm))

end Sys2Proof.Machine
end

section
/-! The invariant, kept by each operation of the block and of the host. -/

namespace Sys2Proof.Machine.State

/-- Outside the two error statuses ERRINFO fits exactly when it is `none` (R26). -/
theorem errInfoFits_iff_none {s : State} (h : s.status = .idle ∨ s.status = .running ∨ s.status = .done) :
    s.errInfoFits = true ↔ s.errInfo = .none := by
  obtain h | h | h := h <;> cases he : s.errInfo <;> simp [errInfoFits, h, he]

/-- The host's pending operations are no part of the invariant. -/
theorem inv_inbox {s : State} (rest : List HostOp) : ({ s with inbox := rest } : State).Inv ↔ s.Inv := Iff.rfl

theorem finish_inv {s : State} (h : s.Inv) (hr : s.status = .running) : s.finish.Inv := by
  obtain ⟨hbuf, hrun, -, -, herr, hout⟩ := h
  have hnone : s.errInfo = .none := (errInfoFits_iff_none (by simp [hr])).mp herr
  exact ⟨hbuf, by simp, by simp, by simp [hrun hr], (errInfoFits_iff_none (by simp)).mpr hnone, hout⟩

theorem emit_inv {s : State} (h : s.Inv) (hr : s.status = .running) {r : Record} (hok : r.ok = true) {n : Nat}
    (hn : s.cur + n ≤ s.buf.size) : (s.emit r n).Inv := by
  obtain ⟨hbuf, hrun, -, -, herr, hout⟩ := h
  obtain ⟨hwritten, -, hend⟩ := hrun hr
  have hnone : s.errInfo = .none := (errInfoFits_iff_none (by simp [hr])).mp herr
  refine ⟨hbuf, fun _ => ⟨hwritten, hn, hend⟩, by simp [hr], by simp [hr],
    (errInfoFits_iff_none (by simp [hr])).mpr hnone, ?_⟩
  intro r' hr'
  obtain hold | rfl : r' ∈ s.out ∨ r' = r := by simpa using hr'
  · exact hout r' hold
  · exact hok

theorem raise_truncated_inv {s : State} (h : s.Inv) (hr : s.status = .running) {op : Byte} {need avail : Nat}
    (hlt : avail < need) (hlen : (lookup op).map OpcodeEntry.length = some need) :
    (s.raise .truncated (.truncated s.cur op need avail)).Inv := by
  obtain ⟨hbuf, hrun, -, -, -, hout⟩ := h
  exact ⟨hbuf, by simp, by simp, by simp [hrun hr], by simpa [errInfoFits, hlt] using hlen, hout⟩

theorem raise_invalidRange_inv {s : State} (h : s.Inv) (cause : RangeCause) :
    (s.raise .invalidRange (.invalidRange cause)).Inv := by
  obtain ⟨hbuf, -, -, -, -, hout⟩ := h
  exact ⟨hbuf, by simp, by simp, by simp, rfl, hout⟩

theorem begin_inv {s : State} (h : s.Inv) {st : Nat} (hst : st < s.buf.size) (en base : Nat) (rc : Bool) :
    (s.begin st en base rc).Inv := by
  obtain ⟨hbuf, -, -, -, -, hout⟩ := h
  exact ⟨hbuf, fun _ => ⟨rfl, hst.le, Nat.min_le_right _ _⟩, by simp, by simp, rfl, hout⟩

theorem hostStart_inv {s : State} (h : s.Inv) (st en base : Nat) (rc : Option Bool) :
    (hostStart st en base rc s).Inv := by
  obtain ⟨-, heq⟩ | ⟨-, -, heq⟩ | ⟨hst, -, heq⟩ := hostStart_cases st en base rc s <;> rw [heq]
  · exact raise_invalidRange_inv h _
  · exact raise_invalidRange_inv h _
  · exact begin_inv h hst _ _ _

theorem hostReset_inv {s : State} (h : s.Inv) : (hostReset s).Inv := by
  obtain ⟨hbuf, -, -, -, -, hout⟩ := h
  exact ⟨hbuf, by simp [State.reset], by simp [State.reset], by simp [State.reset], rfl, hout⟩

/-- Between runs the host may put any bytes in the buffer (R50, R553). -/
theorem load_inv {s : State} (h : s.Inv) (hr : s.status ≠ .running) (bs : List Byte) :
    ({ s with buf := Memory.load bs } : State).Inv := by
  obtain ⟨-, -, hidle, hended, herr, hout⟩ := h
  exact ⟨Memory.load_wf bs, fun hrun => absurd hrun hr, hidle, hended, herr, hout⟩

theorem stepRun_inv {s s' : State} (h : s.Inv) (hs : stepRun s = .next s') : s'.Inv := by
  obtain ⟨hr, rfl | ⟨r, n, rfl, hn, hok⟩ | ⟨op, need, avail, rfl, hlt, hlen⟩⟩ := stepRun_effect hs
  · exact finish_inv h hr
  · exact emit_inv h hr hok hn
  · exact raise_truncated_inv h hr hlt hlen

end Sys2Proof.Machine.State
end

section
/-! The output stream and the field `written` under one step. -/

namespace Sys2Proof.Machine

/-- A STEP leaves the output stream or appends one record to it (R115). -/
theorem stepRun_out {s s' : State} (h : stepRun s = .next s') : s'.out = s.out ∨ ∃ r, s'.out = s.out ++ [r] := by
  obtain ⟨-, rfl | ⟨r, n, rfl, -⟩ | ⟨op, need, avail, rfl, -⟩⟩ := stepRun_effect h
  · exact .inl rfl
  · exact .inr ⟨r, rfl⟩
  · exact .inl rfl

@[simp] theorem hostStart_out (st en base : Nat) (rc : Option Bool) (s : State) :
    (hostStart st en base rc s).out = s.out := by
  obtain ⟨-, heq⟩ | ⟨-, -, heq⟩ | ⟨-, -, heq⟩ := hostStart_cases st en base rc s <;> simp [heq]

/-- What a STEP leaves as it was, and the cursor, which it never moves back (R22, R34, R48). -/
theorem stepRun_frame {s s' : State} (h : stepRun s = .next s') :
    s'.endOff = s.endOff ∧ s'.base = s.base ∧ s'.ctrl = s.ctrl ∧ s'.written = s.written ∧ s'.inbox = s.inbox ∧
      s'.buf = s.buf ∧ s.cur ≤ s'.cur := by
  obtain ⟨-, rfl | ⟨r, n, rfl, -⟩ | ⟨op, need, avail, rfl, -⟩⟩ := stepRun_effect h <;> simp

/-- START gives the registers of a run a value only where it accepts the range (R100). -/
theorem validRange_of_hostStart_written {st en base : Nat} {rc : Option Bool} {s : State} (h : s.written = false)
    (h' : (hostStart st en base rc s).written = true) : Claims.ValidRange s st en := by
  obtain ⟨-, heq⟩ | ⟨-, -, heq⟩ | ⟨hst, hle, -⟩ := hostStart_cases st en base rc s
  · simp [heq, h] at h'
  · simp [heq, h] at h'
  · exact ⟨hst, hle⟩

theorem ofRun_eq_true {r : Reg} : r.ofRun = true ↔ r ∈ [Reg.cur, Reg.endOff, Reg.base, Reg.ctrl] := by
  cases r <;> simp [Reg.ofRun]

theorem ofRun_eq_false {r : Reg} : r.ofRun = false ↔ r ∈ [Reg.status, Reg.errInfo] := by
  cases r <;> simp [Reg.ofRun]

end Sys2Proof.Machine
end

section
/-! The lengths of OPROM's entries, and its words read back (R30, R36). -/

namespace Sys2Proof

open Sys2Proof.Machine

/-- Every row's length is 1 plus its mode's operand bytes (R30), checked list by list of the grid. -/
theorem opTable_length : ∀ r ∈ opTable, r.length = 1 + operandBytes r.mode := by
  have hgrid : ∀ l ∈ opGrid, ∀ r ∈ l, r.length = 1 + operandBytes r.mode := by decide
  intro r hr
  obtain ⟨l, hl, hrl⟩ := List.mem_flatten.mp hr
  exact hgrid l hl r hrl

theorem lookup_length {b : Byte} {e : OpcodeEntry} (h : lookup b = some e) : e.length = 1 + operandBytes e.mode := by
  obtain ⟨r, hrow, rfl⟩ := lookup_eq_some.mp h
  exact opTable_length r (rowOf_some hrow).1

theorem lengthOf_defined {b : Byte} {e : OpcodeEntry} (h : lookup b = some e) : lengthOf b = e.length := by
  simp [lengthOf, h]

theorem lengthOf_undefined {b : Byte} (h : lookup b = none) : lengthOf b = 1 := by
  simp [lengthOf, h]

/-- The number of a mnemonic names it (R37). -/
theorem mnemonic_of_index (m : Mnemonic) : Mnemonic.all[m.index.toNat]? = some m := by cases m <;> rfl

/-- The code of a mode names it (R29). -/
theorem mode_of_code (m : Mode) : Mode.all[m.code.toNat]? = some m := by cases m <;> rfl

/-- The fields of a packed word: `V`, `MN`, `MD`, `LN` from bit 12 down (R36). -/
theorem packedWord_fields (mn : BitVec 6) (md : BitVec 4) (ln : BitVec 2) :
    (1#1 ++ (mn ++ (md ++ ln))).getLsbD 12 = true ∧
      (1#1 ++ (mn ++ (md ++ ln))).extractLsb' 6 6 = mn ∧
      (1#1 ++ (mn ++ (md ++ ln))).extractLsb' 2 4 = md ∧
      (1#1 ++ (mn ++ (md ++ ln))).extractLsb' 0 2 = ln := by
  refine ⟨?_, ?_, ?_, ?_⟩
  · rw [BitVec.getLsbD_append]
    rfl
  · rw [BitVec.extractLsb'_append_eq_of_add_le (by decide), BitVec.extractLsb'_append_eq_left]
  · rw [BitVec.extractLsb'_append_eq_of_add_le (by decide), BitVec.extractLsb'_append_eq_of_add_le (by decide),
      BitVec.extractLsb'_append_eq_left]
  · rw [BitVec.extractLsb'_append_eq_of_add_le (by decide), BitVec.extractLsb'_append_eq_of_add_le (by decide),
      BitVec.extractLsb'_append_eq_right]

/-- An entry whose length fits in `LN` reads back from its word (R36). -/
theorem unpackWord_packEntry_some {e : OpcodeEntry} (h : e.length ≤ 3) : unpackWord (packEntry (some e)) = some e := by
  obtain ⟨hv, hmn, hmd, hln⟩ := packedWord_fields e.mnemonic.index e.mode.code (BitVec.ofNat 2 e.length)
  have hlen : e.length % 4 = e.length := Nat.mod_eq_of_lt (by omega)
  simp only [unpackWord, packEntry, hv, hmn, hmd, hln, mnemonic_of_index, mode_of_code]
  simp [hlen]

theorem unpackWord_packEntry_none : unpackWord (packEntry none) = none := by decide

end Sys2Proof
end

section
/-! The obligations of 10_state.md. -/

namespace Sys2Proof.Proofs

open Sys2Proof.Machine Sys2Proof.Claims

/-- Settles O29: each operation of the block and of the host keeps the invariant. -/
theorem stepKeepsInvariant : Obligations.StepKeepsInvariant := by
  intro s s' h hs
  obtain ⟨rest, hrun | ⟨hr, bs, rfl⟩ | ⟨st, en, base, rc, -, rfl⟩ | rfl⟩ := step_effect hs
  · exact State.stepRun_inv ((State.inv_inbox rest).mpr h) hrun
  · exact (State.inv_inbox rest).mpr (State.load_inv h hr bs)
  · exact State.hostStart_inv ((State.inv_inbox rest).mpr h) st en base rc
  · exact State.hostReset_inv ((State.inv_inbox rest).mpr h)

/-- Settles O44, from the frame of STEP. -/
theorem stepFrame : Obligations.StepFrame := by
  intro s s' hi hs
  rw [step_of_inbox_nil hi] at hs
  obtain ⟨hend, hbase, hctrl, hwritten, hinbox, hbuf, hcur⟩ := stepRun_frame hs
  exact ⟨hend, hbase, hctrl, hwritten, hinbox, by rw [hbuf], fun a => by rw [hbuf], hcur, stepRun_out hs⟩

/-- Settles O45: only a STEP emits, and it appends. -/
theorem outputStreamIsAppendOnly : Obligations.OutputStreamIsAppendOnly := by
  intro s s' hs
  obtain ⟨rest, hrun | ⟨-, bs, rfl⟩ | ⟨st, en, base, rc, -, rfl⟩ | rfl⟩ := step_effect hs
  · obtain hout | ⟨r, hout⟩ := stepRun_out hrun
    · exact ⟨[], by simp [hout], by simp⟩
    · exact ⟨[r], hout, by simp⟩
  all_goals exact ⟨[], by simp, by simp⟩

/-- Settles O57: of all steps only an accepted START writes the registers of a run. -/
theorem hostReadsRegisters : Obligations.HostReadsRegisters := by
  refine ⟨fun s => ⟨rfl, rfl, rfl, rfl, rfl, rfl⟩, fun s r => ⟨?_, ?_⟩, fun s s' hs h h' => ?_⟩
  · rintro (hr | hw)
    · exact heldValue_not_ofRun (ofRun_eq_false.mpr hr)
    · exact heldValue_written hw r
  · exact fun hr hw => heldValue_not_written hw (ofRun_eq_true.mpr hr)
  · obtain ⟨rest, hrun | ⟨-, bs, rfl⟩ | ⟨st, en, base, rc, hi, rfl⟩ | rfl⟩ := step_effect hs
    · obtain ⟨-, -, -, hw, -⟩ := stepRun_frame hrun
      simp [hw, h] at h'
    · simp [h] at h'
    · exact ⟨st, en, base, rc, rest, hi, validRange_of_hostStart_written (s := { s with inbox := rest }) h h'⟩
    · simp [State.reset] at h'

/-- Settles O60, from the round trip of an entry through the fields of its word. -/
theorem romWordsReadBack : Obligations.RomWordsReadBack := by
  refine ⟨fun mn md n _ hn => unpackWord_packEntry_some hn, fun b => ?_⟩
  rw [romWord]
  cases h : lookup b with
  | none => exact unpackWord_packEntry_none
  | some e =>
    obtain ⟨r, hrow, rfl⟩ := lookup_eq_some.mp h
    exact unpackWord_packEntry_some (row_length hrow).2

/-- Settles O59, from the rows of the table. -/
theorem entryLengthFollowsMode : Obligations.EntryLengthFollowsMode := by
  intro b
  constructor
  · intro e h
    exact ⟨lookup_length h, lengthOf_defined h⟩
  · exact lengthOf_undefined

end Sys2Proof.Proofs
end

section
/-! Target addresses and 2-byte operands as natural numbers (R42, R44). -/

namespace Sys2Proof.Machine

/-- The address of an offset, by the sum of the natural numbers (R42). -/
theorem addressOf_eq_ofNat (base : Word) (off : Nat) : addressOf base off = BitVec.ofNat 16 (base.toNat + off) := by
  simp [addressOf, BitVec.ofNat_add]

/-- The two bytes of an operand do not overlap, so that nothing wraps (R44). -/
@[simp] theorem operand16_toNat (lo hi : Byte) : (operand16 lo hi).toNat = lo.toNat + 256 * hi.toNat := by
  have hlo := lo.isLt
  have hhi := hi.isLt
  simp only [operand16, BitVec.toNat_add, BitVec.toNat_mul, BitVec.toNat_setWidth, BitVec.reduceToNat]
  omega

end Sys2Proof.Machine
end

section
/-! The host's load during a run and between runs (R50, R553). -/

namespace Sys2Proof.Machine

theorem hostLoad_running {s : State} (h : s.status = .running) (bs : List Byte) :
    hostLoad bs s = .refused .bufferChangedDuringRun := if_pos h

theorem hostLoad_not_running {s : State} (h : s.status ≠ .running) (bs : List Byte) :
    hostLoad bs s = .next { s with buf := Memory.load bs } := if_neg h

end Sys2Proof.Machine
end

section
/-! The records of a run lie side by side in the buffer, and what that says of their addresses (R113, R43). -/

namespace Sys2Proof.Machine

open Sys2Proof.Claims

/-- The records that a run in its range emits are contiguous from its cursor on: by induction on the STEPs allowed. -/
theorem runLoop_contiguous (n : Nat) : ∀ s : State, s.endOff ≤ s.buf.size →
    ∃ rs, (runLoop n s).out = s.out ++ rs ∧ Contiguous s.buf s.base s.cur rs (runLoop n s).cur := by
  induction n with
  | zero => exact fun s _ => ⟨[], by simp [runLoop], rfl⟩
  | succ n ih =>
    intro s he
    by_cases hr : s.status = .running
    · obtain ⟨-, hs⟩ | ⟨-, k, r, hk, -, hs, haddr, hraw, hlen, -⟩ | ⟨-, -, info, hs⟩ := stepRun_running hr he <;>
        rw [runLoop_next hr hs]
      · rw [runLoop_not_running (by simp)]
        exact ⟨[], by simp, rfl⟩
      · obtain ⟨rs, hout, hrs⟩ := ih (s.emit r k) he
        refine ⟨r :: rs, by simp [hout], ?_⟩
        subst hlen
        exact ⟨hk, hraw, haddr.trans (addressOf_eq_ofNat _ _), hrs⟩
      · rw [runLoop_not_running (by simp)]
        exact ⟨[], by simp, rfl⟩
    · rw [runLoop_not_running hr]
      exact ⟨[], by simp, rfl⟩

/-- The records of a whole run over a valid range are contiguous from its start offset to its final cursor. -/
theorem decodeRange_contiguous {s : State} {st en : Nat} (h : ValidRange s st en) (base : Nat) (rc : Option Bool) :
    ∃ rs, (decodeRange st en base rc s).out = s.out ++ rs ∧
      Contiguous s.buf (BitVec.ofNat 16 base) st rs (decodeRange st en base rc s).cur := by
  rw [decodeRange_begin h.1 h.2]
  exact runLoop_contiguous _ _ (Nat.min_le_right _ _)

end Sys2Proof.Machine

namespace Sys2Proof.Claims

open Sys2Proof.Machine

/-- The first record of a contiguous list stands at the list's own offset, where that does not pass the top of the
address space (R43). -/
theorem Contiguous.head_address {m : Memory} {base : Word} {c c' : Nat} {r : Record} {rs : List Record}
    (h : Contiguous m base c (r :: rs) c') (hc : base.toNat + c ≤ 0xFFFF) : r.address.toNat = base.toNat + c := by
  obtain ⟨-, -, haddr, -⟩ := h
  rw [haddr, BitVec.toNat_ofNat, Nat.mod_eq_of_lt (by omega)]

/-- Without a wrap no record of a contiguous list lies below the offset it starts at. -/
theorem Contiguous.le_address {m : Memory} {base : Word} {c' : Nat} {rs : List Record} {c : Nat}
    (h : Contiguous m base c rs c') (hw : ∀ o ∈ offsetsOf c rs, base.toNat + o ≤ 0xFFFF) :
    ∀ r ∈ rs, base.toNat + c ≤ r.address.toNat := by
  induction rs generalizing c with
  | nil => simp
  | cons r rs ih =>
    obtain ⟨hc, hw⟩ := List.forall_mem_cons.mp hw
    refine List.forall_mem_cons.mpr ⟨(h.head_address hc).ge, fun r' hr' => ?_⟩
    obtain ⟨-, -, -, hrest⟩ := h
    have := ih hrest hw r' hr'
    omega

/-- Without a wrap the addresses of a contiguous list rise: a record takes at least one byte, and the records after it
lie at or past its end. -/
theorem Contiguous.pairwise_address_lt {m : Memory} {base : Word} {c' : Nat} {rs : List Record} {c : Nat}
    (h : Contiguous m base c rs c') (hw : ∀ o ∈ offsetsOf c rs, base.toNat + o ≤ 0xFFFF) :
    rs.Pairwise fun r r' => r.address.toNat < r'.address.toNat := by
  induction rs generalizing c with
  | nil => exact .nil
  | cons r rs ih =>
    obtain ⟨hc, hw⟩ := List.forall_mem_cons.mp hw
    have hhead := h.head_address hc
    obtain ⟨hone, -, -, hrest⟩ := h
    refine .cons (fun r' hr' => ?_) (ih hrest hw)
    have := hrest.le_address hw r' hr'
    omega

end Sys2Proof.Claims
end

section
/-! The obligations of 20_memory.md. -/

namespace Sys2Proof.Proofs

open Sys2Proof.Machine Sys2Proof.Claims

/-- Settles O41, from the contiguity of a run's records. -/
theorem addressesStrictlyIncrease : Obligations.AddressesStrictlyIncrease := by
  intro s st en base rc h
  obtain ⟨rs, hout, hrs⟩ := decodeRange_contiguous h base rc
  refine ⟨rs, hout, fun hw => hrs.pairwise_address_lt ?_⟩
  simpa only [BitVec.toNat_ofNat] using hw

/-- Settles O58: a load is refused in RUNNING alone, and what it loads reads back. -/
theorem bufferChangesBetweenRunsOnly : Obligations.BufferChangesBetweenRunsOnly := by
  intro s bs
  refine ⟨fun hr => hostLoad_running hr bs, fun hr => ?_⟩
  exact ⟨_, hostLoad_not_running hr bs, rfl, rfl, Memory.read_load bs⟩

/-- Settles O51, from the value of the operand's two bytes. -/
theorem twoByteOperandIsLittleEndian : Obligations.TwoByteOperandIsLittleEndian := by
  intro mode op b1 b2 h
  rw [operandValue_two h, Option.map_some, operand16_toNat]

end Sys2Proof.Proofs
end

section
/-! The decoder and the encoder are inverse to each other (R61 to R63). -/

namespace Sys2Proof

theorem Instr.wf_byte {b : Byte} : (Instr.byte b).wf = true ↔ b ∈ undefinedBytes := List.contains_iff_mem

/-- A byte of R72's list has no row. -/
theorem rowOf_undefined {b : Byte} (h : b ∈ undefinedBytes) : rowOf b = none :=
  lookup_eq_none.mp (Laws.EncodedLength.lookup_undefined b h)

/-- The decoder reads back every instruction's encoding: a defined opcode selects the row of the constructor it was
written for, whatever its operand bytes hold, and the raw-data byte selects no row. -/
theorem decode_encode {i : Instr} (h : i.wf = true) (rest : List Byte) : decode (encode i ++ rest) = .ok (i, rest) := by
  cases i with
  | byte b => exact decode_undefined (rowOf_undefined (Instr.wf_byte.mp h)) rest
  | _ => rfl

/-- What the decoder takes off the front of the bytes is the encoding of the instruction it answers. -/
theorem encode_decode {bytes rest : List Byte} {i : Instr} (h : decode bytes = .ok (i, rest)) :
    bytes = encode i ++ rest ∧ i.wf = true := by
  cases bytes with
  | nil => cases h
  | cons op args =>
    cases hrow : rowOf op with
    | none =>
      rw [decode_undefined hrow] at h
      cases h
      exact ⟨rfl, Instr.wf_byte.mpr (rowOf_none op hrow)⟩
    | some r =>
      obtain ⟨j, hd, -, henc, hwf⟩ | ⟨hd, -⟩ := decode_defined hrow args <;> rw [hd] at h <;> cases h
      exact ⟨by simp [henc], hwf⟩

end Sys2Proof
end

section
/-! The texts of the two kinds of record begin differently (R76). -/

namespace Sys2Proof.Machine

/-- A rendered text begins with its mnemonic (R143). -/
theorem render_prefix (mn : Text) (mode : Mode) (v : Option Word) (a : Word) : mn <+: render mn mode v a := by
  simp only [render]
  split
  · exact List.prefix_rfl
  · exact ⟨_, (List.append_assoc ..).symm⟩

/-- No text that begins with a mnemonic of the table begins with a dot. -/
theorem ne_dot_cons_of_mnemonicText_prefix {m : Mnemonic} {t : Text} (h : mnemonicText m <+: t) (u : Text) :
    t ≠ '.' :: u := by
  obtain ⟨a, b, c, hm, ha⟩ := mnemonicText_letters m
  rintro rfl
  rw [hm, List.cons_prefix_cons] at h
  exact ha h.1

end Sys2Proof.Machine
end

section
/-! The obligations of 30_encoding.md. -/

namespace Sys2Proof.Proofs

open Sys2Proof.Machine

/-- Settles O26, by cases on the instruction. -/
theorem decodeInvertsEncode : Obligations.DecodeInvertsEncode :=
  fun _ rest h => decode_encode h rest

/-- Settles O27, by cases on the first byte's row. -/
theorem encodeInvertsDecode : Obligations.EncodeInvertsDecode :=
  fun _ _ _ h => encode_decode h

/-- Settles O56: an instruction's text and mnemonic begin with a letter, a data record's with a dot. -/
theorem dataTextIsNoInstructionText : Obligations.DataTextIsNoInstructionText :=
  fun _ _ e raw a _ _ =>
    ⟨ne_dot_cons_of_mnemonicText_prefix (render_prefix (mnemonicText e.mnemonic) e.mode (operandValue e.mode raw) a) _,
      ne_dot_cons_of_mnemonicText_prefix (List.prefix_refl (mnemonicText e.mnemonic)) _⟩

/-- Settles O25: each whole word is an encoding, which the decoder reads back; the last one lacks a byte. -/
theorem specWordsDecode : Obligations.SpecWordsDecode :=
  ⟨decode_encode (i := .ldaImmediate 5) rfl [], decode_encode (i := .adcAbsolute 0x34 0x12) rfl [],
    decode_encode (i := .aslAccumulator) rfl [0x44], decode_encode (i := .jmpAbsolute 0x00 0x90) rfl [],
    decode_encode (i := .nop) rfl [], decode_encode (i := .byte 0xFF) rfl [], rfl⟩

end Sys2Proof.Proofs
end

section
/-! What the decoder and the table answer for the bytes at an offset of the buffer (R47, R62, R104). -/

namespace Sys2Proof

@[simp] theorem OpRow.entry_length (r : OpRow) : r.entry.length = r.length := rfl

/-- OPROM's entry of a defined opcode is its row's. -/
theorem lookup_of_rowOf {b : Byte} {r : OpRow} (h : rowOf b = some r) : lookup b = some r.entry :=
  lookup_eq_some.mpr ⟨r, h, rfl⟩

/-- No encoding is longer than three bytes: it is its first byte and what the row of that byte takes after it. -/
theorem encode_length_le {i : Instr} (h : i.wf = true) : (encode i).length ≤ 3 := by
  have hdec := decode_encode h []
  rw [List.append_nil] at hdec
  cases henc : encode i with
  | nil => simp
  | cons op args =>
    rw [henc] at hdec
    rw [List.length_cons]
    cases hrow : rowOf op with
    | none =>
      rw [decode_undefined hrow] at hdec
      cases hdec
      simp
    | some r =>
      have hthree := (Machine.row_length hrow).2
      obtain ⟨j, hd, -⟩ | ⟨hd, -⟩ := decode_defined hrow args <;> rw [hd] at hdec
      · simp only [Except.ok.injEq, Prod.mk.injEq, List.drop_eq_nil_iff] at hdec
        omega
      · cases hdec

namespace Machine

/-- A shorter read is the beginning of a longer one at the same offset. -/
theorem Memory.readBytes_prefix (m : Memory) (off : Nat) {k n : Nat} (h : k ≤ n) :
    m.readBytes off k <+: m.readBytes off n := by
  rw [Memory.readBytes_take m k n off h]
  exact List.take_prefix _ _

/-- The decoder finds a truncation at an offset exactly when the opcode there is defined and runs past `N` (R104). -/
theorem decode_readBytes_truncated_iff {m : Memory} {cur : Nat} {b : Byte} (hb : m.read cur = some b) (op : Byte)
    (need : Nat) :
    decode (m.readBytes cur 3) = .error (.truncated op need) ↔
      op = b ∧ m.size < cur + need ∧ (lookup b).map OpcodeEntry.length = some need := by
  have hcur : cur < m.size := Memory.read_isSome.mp (by simp [hb])
  have hbytes : m.readBytes cur 3 = b :: m.readBytes (cur + 1) 2 := by simp [Memory.readBytes, hb]
  have hlen := Memory.readBytes_length m 2 (cur + 1)
  rw [hbytes]
  cases hrow : rowOf b with
  | none => simp [decode_undefined hrow, lookup_eq_none.mpr hrow]
  | some r =>
    obtain ⟨hone, hthree⟩ := row_length hrow
    rw [lookup_of_rowOf hrow, Option.map_some, OpRow.entry_length, Option.some.injEq]
    obtain ⟨i, hd, hfit, -⟩ | ⟨hd, hpast⟩ := decode_defined hrow (m.readBytes (cur + 1) 2) <;> rw [hd]
    · refine iff_of_false nofun ?_
      rintro ⟨-, hlt, rfl⟩
      omega
    · simp only [Except.error.injEq, DecodeError.truncated.injEq]
      constructor
      · rintro ⟨rfl, rfl⟩
        exact ⟨rfl, by omega, rfl⟩
      · rintro ⟨rfl, -, rfl⟩
        exact ⟨rfl, rfl⟩

end Machine

end Sys2Proof
end

section
/-! The table-driven STEP, case by case as STEP itself, and that the two are one (R103, R106). -/

namespace Sys2Proof.Machine

theorem decodeOne_past_buffer {m : Memory} {cur : Nat} (h : m.read cur = none) (base : Word) :
    decodeOne m cur base = none := by
  simp [decodeOne, h]

theorem decodeOne_data {m : Memory} {cur : Nat} {b : Byte} (hb : m.read cur = some b) (hrow : rowOf b = none)
    (base : Word) : decodeOne m cur base = some (.emit (dataRecord b (addressOf base cur)) 1) := by
  simp [decodeOne, hb, lookup_eq_none.mpr hrow]

theorem decodeOne_fits {m : Memory} {cur : Nat} {b : Byte} {r : OpRow} (hb : m.read cur = some b)
    (hrow : rowOf b = some r) (hfit : cur + r.length ≤ m.size) (base : Word) :
    decodeOne m cur base =
      some (.emit (instrRecord r.entry (m.readBytes cur r.length) (addressOf base cur)) r.length) := by
  simp [decodeOne, hb, lookup_of_rowOf hrow, Nat.not_lt.mpr hfit]

theorem decodeOne_truncated {m : Memory} {cur : Nat} {b : Byte} {r : OpRow} (hb : m.read cur = some b)
    (hrow : rowOf b = some r) (hpast : m.size < cur + r.length) (base : Word) :
    decodeOne m cur base = some (.trunc cur b r.length (m.size - cur)) := by
  simp [decodeOne, hb, lookup_of_rowOf hrow, hpast]

/-- The truncation outcome is what the table-driven STEP does with a truncated opcode (R106, R108). -/
theorem applyDecoded_trunc (s : State) (op : Byte) (need : Nat) :
    s.applyDecoded (.trunc s.cur op need (s.buf.size - s.cur)) = truncate op need s := by
  simp only [State.applyDecoded, truncate, rc_eq_true]
  rfl

theorem stepByTable_not_running {s : State} (h : s.status ≠ .running) : stepByTable s = .fault .stepNotEnabled := by
  simp [stepByTable, h]

theorem stepByTable_finish {s : State} (hr : s.status = .running) (h : s.endOff ≤ s.cur) :
    stepByTable s = .next s.finish := by
  simp [stepByTable, hr, h]

theorem stepByTable_past_buffer {s : State} (hr : s.status = .running) (h : s.cur < s.endOff)
    (hd : decodeOne s.buf s.cur s.base = none) : stepByTable s = .fault .readPastBuffer := by
  simp [stepByTable, hr, Nat.not_le.mpr h, hd]

theorem stepByTable_decoded {s : State} {d : Decoded} (hr : s.status = .running) (h : s.cur < s.endOff)
    (hd : decodeOne s.buf s.cur s.base = some d) : stepByTable s = .next (s.applyDecoded d) := by
  simp [stepByTable, hr, Nat.not_le.mpr h, hd]

/-- STEP over the instructions' own meanings is STEP over the table, in each of its cases. -/
theorem stepRun_eq_stepByTable (s : State) : stepRun s = stepByTable s := by
  by_cases hr : s.status = .running
  swap
  · rw [stepRun_not_running hr, stepByTable_not_running hr]
  obtain hlt | hend := Nat.lt_or_ge s.cur s.endOff
  swap
  · rw [stepRun_finish hr hend, stepByTable_finish hr hend]
  cases hb : s.buf.read s.cur with
  | none => rw [stepRun_past_buffer hr hlt hb, stepByTable_past_buffer hr hlt (decodeOne_past_buffer hb _)]
  | some b =>
    cases hrow : rowOf b with
    | none =>
      rw [stepRun_data hr hlt hb hrow, stepByTable_decoded hr hlt (decodeOne_data hb hrow _)]
      rfl
    | some r =>
      obtain hpast | hfit := Nat.lt_or_ge s.buf.size (s.cur + r.length)
      · rw [stepRun_truncated hr hlt hb hrow hpast, stepByTable_decoded hr hlt (decodeOne_truncated hb hrow hpast _),
          applyDecoded_trunc]
      · rw [stepRun_fits hr hlt hb hrow hfit, stepByTable_decoded hr hlt (decodeOne_fits hb hrow hfit _)]
        rfl

end Sys2Proof.Machine
end

section
/-! One STEP and START, in the terms of the rules. -/

namespace Sys2Proof.Machine

open Sys2Proof.Claims

/-- The address of the cursor as the rules write it (R42). -/
theorem addressOf_cur (s : State) : addressOf s.base s.cur = cursorAddress s := addressOf_eq_ofNat _ _

/-- The raw-data outcome as R105 writes it. -/
theorem emitData_eq (b : Byte) (s : State) :
    emitData b s = { s with cur := s.cur + 1, out := s.out ++ [byteRecord b (cursorAddress s)] } := by
  rw [← addressOf_cur]
  rfl

/-- Below END the decoded instruction runs (R106). -/
theorem stepRun_decoded {s : State} {i : Instr} {rest : List Byte} (hr : s.status = .running) (h : s.cur < s.endOff)
    (hd : decode (fetchBytes s) = .ok (i, rest)) : stepRun s = exec i s := by
  simp [stepRun, hr, Nat.not_le.mpr h, hd]

/-- A STEP of a run that stays inside its buffer always answers a next state (R501). -/
theorem stepRun_answers {s : State} (hr : s.status = .running) (he : s.endOff ≤ s.buf.size) :
    ∃ t, stepRun s = .next t := by
  obtain ⟨-, hs⟩ | ⟨-, k, r, -, -, hs, -⟩ | ⟨-, -, info, hs⟩ := stepRun_running hr he
  · exact ⟨_, hs⟩
  · exact ⟨_, hs⟩
  · exact ⟨_, hs⟩

/-- A STEP that emits stands below END and moves the cursor by 1 to 3 (R110). -/
theorem stepRun_emits {s s' : State} (h : stepRun s = .next s') (hout : s'.out ≠ s.out) :
    s.cur < s.endOff ∧ ∃ r k, 1 ≤ k ∧ k ≤ 3 ∧ s' = s.emit r k := by
  obtain ⟨-, ⟨-, rfl⟩ | ⟨hlt, b, -, hcases⟩⟩ := stepRun_cases h
  · exact absurd rfl hout
  refine ⟨hlt, ?_⟩
  obtain ⟨-, rfl⟩ | ⟨r, hrow, ⟨-, rfl⟩ | ⟨-, rfl⟩⟩ := hcases
  · exact ⟨_, 1, le_rfl, by decide, rfl⟩
  · exact ⟨_, r.length, (row_length hrow).1, (row_length hrow).2, rfl⟩
  · cases hrc : s.rc with
    | false => exact ⟨_, 1, le_rfl, by decide, truncate_data hrc⟩
    | true =>
      rw [truncate_error hrc] at hout
      exact absurd rfl hout

/-- START's base is reduced modulo 2^16 (R100). -/
theorem ofNat_mod_word (n : Nat) : BitVec.ofNat 16 (n % 2 ^ 16) = BitVec.ofNat 16 n :=
  BitVec.eq_of_toNat_eq (by simp)

theorem hostStart_startPastEnd {s : State} {st : Nat} (h : s.buf.size ≤ st) (en base : Nat) (rc : Option Bool) :
    hostStart st en base rc s = s.raise .invalidRange (.invalidRange .startPastEnd) := if_pos h

theorem hostStart_endBeforeStart {s : State} {st en : Nat} (hst : st < s.buf.size) (h : en < st) (base : Nat)
    (rc : Option Bool) : hostStart st en base rc s = s.raise .invalidRange (.invalidRange .endBeforeStart) := by
  rw [hostStart, if_neg (Nat.not_le.mpr hst), if_pos h]

theorem hostStart_valid {s : State} {st en : Nat} (h : ValidRange s st en) (base : Nat) (rc : Option Bool) :
    hostStart st en base rc s = s.begin st en base (rc.getD Config.defaultRequireComplete) := by
  obtain ⟨hst, hle⟩ := h
  rw [hostStart, if_neg (Nat.not_le.mpr hst), if_neg (Nat.not_lt.mpr hle)]

/-- A refused START is the whole of a run. -/
theorem decodeRange_refused {s : State} {st en base : Nat} {rc : Option Bool}
    (h : (hostStart st en base rc s).status ≠ .running) :
    decodeRange st en base rc s = hostStart st en base rc s :=
  runLoop_not_running h _

end Sys2Proof.Machine
end

section
/-! How a run ends, and with how many records: one induction over the STEPs of a run (R110). -/

namespace Sys2Proof.Machine

/-- Induction over a run that is allowed enough STEPs: a relation of its first and last state holds if it holds of each
way to end and is carried back over each record. -/
theorem runLoop_induction {P : State → State → Prop}
    (finish : ∀ s, s.endOff ≤ s.cur → P s s.finish)
    (raise : ∀ s info, s.cur < s.endOff → s.rc = true → P s (s.raise .truncated info))
    (emit : ∀ s r k t, s.cur < s.endOff → 1 ≤ k → P (s.emit r k) t → P s t) (n : Nat) :
    ∀ s : State, s.status = .running → s.endOff ≤ s.buf.size → s.endOff - s.cur < n → P s (runLoop n s) := by
  induction n with
  | zero => intro s _ _ hn; omega
  | succ n ih =>
    intro s hr he hn
    obtain ⟨hend, hs⟩ | ⟨hlt, k, r, hk, -, hs, -⟩ | ⟨hlt, hrc, info, hs⟩ := stepRun_running hr he <;>
      rw [runLoop_next hr hs]
    · rw [runLoop_not_running (by simp)]
      exact finish s hend
    · refine emit s r k _ hlt hk (ih (s.emit r k) hr he ?_)
      rw [State.emit_endOff, State.emit_cur]
      omega
    · rw [runLoop_not_running (by simp)]
      exact raise s info hlt hrc

/-- A run ends at END, or at a truncated opcode with `RC = 1` (R106, R110). -/
theorem runLoop_status (n : Nat) (s : State) (hr : s.status = .running) (he : s.endOff ≤ s.buf.size)
    (hn : s.endOff - s.cur < n) :
    (runLoop n s).status = .done ∨ (runLoop n s).status = .truncated ∧ s.rc = true :=
  runLoop_induction (P := fun s t => t.status = .done ∨ t.status = .truncated ∧ s.rc = true)
    (fun _ _ => .inl rfl) (fun _ _ _ hrc => .inr ⟨rfl, hrc⟩) (fun _ _ _ _ _ _ h => h) n s hr he hn

/-- A run emits at most one record for each byte of its range (R110). -/
theorem runLoop_out_length (n : Nat) (s : State) (hr : s.status = .running) (he : s.endOff ≤ s.buf.size)
    (hn : s.endOff - s.cur < n) : (runLoop n s).out.length ≤ s.out.length + (s.endOff - s.cur) := by
  refine runLoop_induction (P := fun s t => t.out.length ≤ s.out.length + (s.endOff - s.cur)) ?_ ?_ ?_ n s hr he hn
  · intro s _
    simp
  · intro s _ _ _
    simp
  · intro s r k t hlt hk h
    rw [State.emit_out, State.emit_endOff, State.emit_cur, List.length_append, List.length_singleton] at h
    omega

end Sys2Proof.Machine
end

section
/-! A run depends on nothing of the host's side but the buffer (R111). -/

namespace Sys2Proof.Machine

open Sys2Proof.Claims

/-- The block of `s` with another host's side: the records `o` emitted before its own, and `ops` pending. -/
def State.withHostSide (o : List Record) (ops : List HostOp) (s : State) : State :=
  { s with out := o ++ s.out, inbox := ops }

/-- The block after reset with the buffer `m` placed. -/
def State.blank (m : Memory) : State := { State.reset with buf := m }

/-- An accepted START leaves nothing of the state before it but the buffer and the rest of the host's side. -/
theorem begin_eq_blank_withHostSide (s : State) (st en base : Nat) (rc : Bool) :
    s.begin st en base rc = ((State.blank s.buf).begin st en base rc).withHostSide s.out s.inbox := by
  simp [State.begin, State.withHostSide, State.blank, State.reset]

theorem emit_withHostSide (o : List Record) (ops : List HostOp) (s : State) (r : Record) (n : Nat) :
    (s.withHostSide o ops).emit r n = (s.emit r n).withHostSide o ops := by
  simp [State.withHostSide, State.emit]

theorem truncate_withHostSide (o : List Record) (ops : List HostOp) (op : Byte) (need : Nat) (s : State) :
    truncate op need (s.withHostSide o ops) = (truncate op need s).withHostSide o ops := by
  have hside : (s.withHostSide o ops).rc = s.rc := rfl
  cases hrc : s.rc with
  | false =>
    rw [truncate_data hrc, truncate_data (hside.trans hrc)]
    exact emit_withHostSide o ops s _ 1
  | true =>
    rw [truncate_error hrc, truncate_error (hside.trans hrc)]
    rfl

/-- STEP neither reads nor changes the host's side. -/
theorem stepRun_withHostSide (o : List Record) (ops : List HostOp) {s t : State} (h : stepRun s = .next t) :
    stepRun (s.withHostSide o ops) = .next (t.withHostSide o ops) := by
  obtain ⟨hr, ⟨hend, rfl⟩ | ⟨hlt, b, hb, hcases⟩⟩ := stepRun_cases h
  · exact stepRun_finish hr hend
  obtain ⟨hrow, rfl⟩ | ⟨r, hrow, ⟨hfit, rfl⟩ | ⟨hpast, rfl⟩⟩ := hcases
  · rw [stepRun_data (s := s.withHostSide o ops) hr hlt hb hrow]
    exact congrArg _ (emit_withHostSide o ops s _ 1)
  · rw [stepRun_fits (s := s.withHostSide o ops) hr hlt hb hrow hfit]
    exact congrArg _ (emit_withHostSide o ops s _ _)
  · rw [stepRun_truncated (s := s.withHostSide o ops) hr hlt hb hrow hpast, truncate_withHostSide]

/-- Nor does a whole run: by induction on the STEPs allowed. -/
theorem runLoop_withHostSide (o : List Record) (ops : List HostOp) (n : Nat) :
    ∀ s : State, s.endOff ≤ s.buf.size → runLoop n (s.withHostSide o ops) = (runLoop n s).withHostSide o ops := by
  induction n with
  | zero => exact fun _ _ => rfl
  | succ n ih =>
    intro s he
    by_cases hr : s.status = .running
    · obtain ⟨t, hs⟩ := stepRun_answers hr he
      obtain ⟨hend, -, -, -, -, hbuf, -⟩ := stepRun_frame hs
      rw [runLoop_next hr hs, runLoop_next (s := s.withHostSide o ops) hr (stepRun_withHostSide o ops hs)]
      exact ih t (by rwa [hend, hbuf])
    · rw [runLoop_not_running hr, runLoop_not_running (s := s.withHostSide o ops) hr]

/-- A run over a valid range is the run after a reset, seen from the host's side that there is. -/
theorem decodeRange_eq_blank_withHostSide {s : State} {st en : Nat} (h : ValidRange s st en) (base : Nat)
    (rc : Option Bool) :
    decodeRange st en base rc s =
      (decodeRange st en base rc (State.blank s.buf)).withHostSide s.out s.inbox := by
  rw [decodeRange_begin h.1 h.2, decodeRange_begin (s := State.blank s.buf) h.1 h.2, begin_eq_blank_withHostSide]
  exact runLoop_withHostSide _ _ _ _ (Nat.min_le_right _ _)

/-- A refused START shows its cause and no record. -/
theorem observeRun_refused {s : State} {st en base : Nat} {rc : Option Bool} {info : ErrInfo}
    (h : hostStart st en base rc s = s.raise .invalidRange info) :
    observeRun st en base rc s = ([], .invalidRange, info) := by
  have hrun : decodeRange st en base rc s = s.raise .invalidRange info :=
    (decodeRange_refused (by simp [h])).trans h
  simp [observeRun, hrun]

/-- What a run shows is what it shows after a reset, with the same buffer (R111). -/
theorem observeRun_eq_blank (st en base : Nat) (rc : Option Bool) (s : State) :
    observeRun st en base rc s = observeRun st en base rc (State.blank s.buf) := by
  obtain hst | hpast := Nat.lt_or_ge st s.buf.size
  swap
  · rw [observeRun_refused (hostStart_startPastEnd hpast ..),
      observeRun_refused (hostStart_startPastEnd (s := State.blank s.buf) hpast ..)]
  obtain hlt | hle := Nat.lt_or_ge en st
  · rw [observeRun_refused (hostStart_endBeforeStart hst hlt ..),
      observeRun_refused (hostStart_endBeforeStart (s := State.blank s.buf) hst hlt ..)]
  · simp [observeRun, decodeRange_eq_blank_withHostSide ⟨hst, hle⟩, State.withHostSide, State.blank, State.reset]

end Sys2Proof.Machine
end

section
/-! The obligations of 40_decode_unit.md. -/

namespace Sys2Proof.Proofs

open Sys2Proof.Machine Sys2Proof.Claims

/-- Settles O28, by the cases of STEP. -/
theorem stepIsTableDrivenStep : Obligations.StepIsTableDrivenStep := by
  intro s hi
  rw [step_of_inbox_nil hi, stepRun_eq_stepByTable]

/-- Settles O38: what a STEP that emits does, and how a run ends. -/
theorem runTerminates : Obligations.RunTerminates := by
  refine ⟨fun s s' hs hout => ?_, fun s st en base rc h => ?_⟩
  · obtain ⟨hlt, r, k, hone, hthree, rfl⟩ := stepRun_emits hs hout
    rw [State.emit_cur]
    omega
  · have hstart := hostStart_valid h base rc
    refine ⟨_, rfl, by rw [decodeRange_begin h.1 h.2, hstart], ?_⟩
    rw [hstart]
    exact ⟨(runLoop_status _ _ rfl (Nat.min_le_right _ _) (Nat.lt_succ_self _)).imp_right And.left,
      runLoop_out_length _ _ rfl (Nat.min_le_right _ _) (Nat.lt_succ_self _)⟩

/-- Settles O39: both runs show what the run after a reset shows. -/
theorem runDependsOnArguments : Obligations.RunDependsOnArguments := by
  intro s1 s2 st en base rc h
  rw [observeRun_eq_blank, observeRun_eq_blank (s := s2), h]

/-- Settles O40, from the contiguity of a run's records. -/
theorem recordsCoverTheRange : Obligations.RecordsCoverTheRange :=
  fun _ _ _ base rc h => decodeRange_contiguous h base rc

/-- Settles O23, from the case of STEP below END. -/
theorem stepRunsDecodedInstruction : Obligations.StepRunsDecodedInstruction := by
  rintro s i rest ⟨hi, hr⟩ hlt hd
  rw [step_of_inbox_nil hi]
  exact stepRun_decoded hr hlt hd

/-- Settles O24: the encoding begins what STEP fetches, and decodes to its instruction. -/
theorem stepRunsEncodedInstruction : Obligations.StepRunsEncodedInstruction := by
  rintro s i hwf hstep hlt hbytes
  obtain ⟨rest, hrest⟩ := s.buf.readBytes_prefix s.cur (encode_length_le hwf)
  refine stepRunsDecodedInstruction s i rest hstep hlt ?_
  rw [← hrest, hbytes, decode_encode hwf]

/-- Settles O32: START's three cases, and a run that stands at its END. -/
theorem startFollowsItsRule : Obligations.StartFollowsItsRule := by
  intro s st en base rc
  refine ⟨fun hpast => hostStart_startPastEnd hpast .., fun hst hlt => hostStart_endBeforeStart hst hlt ..,
    fun hst hle => ?_, fun hst heq => ?_⟩
  · rw [hostStart_valid ⟨hst, hle⟩, ofNat_mod_word]
    rfl
  · subst heq
    rw [decodeRange_begin hst le_rfl, runLoop_next rfl (stepRun_finish rfl (Nat.min_le_left _ _)),
      runLoop_not_running (by simp)]
    exact ⟨rfl, rfl⟩

/-- Settles O35: the emitted instruction moves the cursor past END, where the next STEP ends the run. -/
theorem straddlingInstructionEmittedWhole : Obligations.StraddlingInstructionEmittedWhole := by
  intro s b e hr hlt hb hlook hfit hend
  obtain ⟨r, hrow, rfl⟩ := lookup_eq_some.mp hlook
  refine ⟨_, stepRun_fits hr hlt hb hrow hfit, rfl, ⟨_, rfl, rfl, ?_⟩, stepRun_finish hr hend.le⟩
  exact (Memory.readBytes_length _ _ _).trans (Nat.min_eq_left (by rw [OpRow.entry_length] at hfit; omega))

/-- Settles O37, from the decoder's truncation and the lengths of the table. -/
theorem truncationOnlyAtBufferEnd : Obligations.TruncationOnlyAtBufferEnd := by
  intro m cur b hb
  refine ⟨decode_readBytes_truncated_iff hb, fun e hlook hpast => ?_⟩
  obtain ⟨r, hrow, rfl⟩ := lookup_eq_some.mp hlook
  obtain ⟨hone, hthree⟩ := row_length hrow
  have hcur : cur < m.size := Memory.read_isSome.mp (by simp [hb])
  rw [OpRow.entry_length] at hpast ⊢
  omega

/-- Settles O42: a run ends with TRUNCATED only with `RC = 1`. -/
theorem rcZeroRunEndsDone : Obligations.RcZeroRunEndsDone := by
  intro s st en base h
  rw [decodeRange_begin h.1 h.2]
  obtain hdone | ⟨-, hrc⟩ :=
    runLoop_status _ (s.begin st en base false) rfl (Nat.min_le_right _ _) (Nat.lt_succ_self _)
  · exact hdone
  · have hctrl : ctrlOf false = 1 := rc_eq_true.mp hrc
    exact absurd hctrl (by decide)

/-- Settles O22: the meaning of the pseudo-instruction is the raw-data outcome. -/
theorem rawDataInstructionDecodes : Obligations.RawDataInstructionDecodes :=
  fun s b _ => congrArg Host.Outcome.next (emitData_eq b s)

/-- Settles O33, from the tests of STATUS. -/
theorem stepNotEnabledOutsideRunning : Obligations.StepNotEnabledOutsideRunning :=
  fun _ h => ⟨stepRun_not_running h, hostLoad_not_running h⟩

/-- Settles O36, by the host's list and its operations. -/
theorem stepServesTheHost : Obligations.StepServesTheHost := by
  intro s
  refine ⟨step_of_inbox_nil, fun op rest hi => ?_⟩
  rw [step_of_inbox_cons hi]
  cases op <;> rfl

end Sys2Proof.Proofs
end

section
/-! The digits of a rendered number, and the target of a branch (R130, R140, R141). -/

namespace Sys2Proof.Machine

/-- A digit is looked up in the claims' table as in the model's; it is never past the end, so the default is unused. -/
theorem hexDigit_eq_digits16 : ∀ d : BitVec 4, hexDigit d = Claims.digits16.getD d.toNat 'x' := by decide

/-- The digit of the four bits from bit `k` up is the base-16 digit of the value divided by `2 ^ k`. -/
theorem hexDigit_extractLsb' {w : Nat} (v : BitVec w) (k : Nat) :
    hexDigit (v.extractLsb' k 4) = Claims.digits16.getD (v.toNat / 2 ^ k % 16) 'x' := by
  rw [hexDigit_eq_digits16, BitVec.extractLsb'_toNat, Nat.shiftRight_eq_div_pow]

/-- The four digits tell words apart. -/
theorem hex4_injective {v w : Word} (h : hex4 v = hex4 w) : v = w := by
  have hnibble {k : Nat} (hk : hexDigit (v.extractLsb' k 4) = hexDigit (w.extractLsb' k 4)) :
      v.toNat / 2 ^ k % 2 ^ 4 = w.toNat / 2 ^ k % 2 ^ 4 := by
    simpa only [BitVec.extractLsb'_toNat, Nat.shiftRight_eq_div_pow] using
      congrArg BitVec.toNat (hexDigit_injective _ _ hk)
  simp only [hex4, List.cons.injEq, and_true] at h
  obtain ⟨h12, h8, h4, h0⟩ := h
  have n12 := hnibble h12
  have n8 := hnibble h8
  have n4 := hnibble h4
  have n0 := hnibble h0
  exact BitVec.eq_of_toNat_eq (by omega)

/-- The text of a branch is its target's. -/
theorem fmt_relative_inj {a a' v v' : Word} :
    fmt .relative (some v) a = fmt .relative (some v') a' ↔ target a v = target a' v' :=
  ⟨fun h => hex4_injective (List.append_cancel_left h), fun h => congrArg ("$".toList ++ hex4 ·) h⟩

/-- The claims' displacement of a byte is its value as two's complement (R140). -/
theorem toInt_eq_displacement (rr : Byte) : rr.toInt = Claims.displacement rr := by
  rw [BitVec.toInt_eq_toNat_cond, Claims.displacement]
  split <;> split <;> omega

theorem displacement_bounds (rr : Byte) : -128 ≤ Claims.displacement rr ∧ Claims.displacement rr ≤ 127 := by
  have hlt := rr.isLt
  rw [Claims.displacement]
  split <;> omega

/-- Sign extension keeps the displacement (R140). -/
theorem disp_toInt (rr : Byte) : (disp (rr.setWidth 16)).toInt = Claims.displacement rr := by
  rw [disp, BitVec.setWidth_setWidth_of_le _ (by decide), BitVec.setWidth_eq,
    BitVec.toInt_signExtend_of_le (by decide), toInt_eq_displacement]

/-- The model's target of a branch is the one that the claims compute in the integers (R141). -/
theorem target_eq_branchTarget (a : Word) (rr : Byte) : target a (rr.setWidth 16) = Claims.branchTarget a rr := by
  rw [Claims.branchTarget, BitVec.ofInt_add, BitVec.ofInt_add, ← disp_toInt, BitVec.ofInt_toInt, target]
  simp

end Sys2Proof.Machine
end

section
/-! The obligations of 41_operand_formatter.md. -/

namespace Sys2Proof.Proofs

open Sys2Proof.Machine Sys2Proof.Claims

/-- Settles O48, from the claims' target, whose value modulo 2^16 is the sum's. -/
theorem branchTargetIsSigned : Obligations.BranchTargetIsSigned := by
  intro addr rr
  refine ⟨displacement_bounds rr, disp_toInt rr, ?_⟩
  rw [target_eq_branchTarget, branchTarget, BitVec.toNat_ofInt, Int.toNat_of_nonneg (by omega)]
  rfl

/-- Settles O49: the text names the target, and the target determines the address. -/
theorem branchTextDependsOnAddress : Obligations.BranchTextDependsOnAddress := by
  refine ⟨fun addr => ⟨?_, ?_⟩, fun a a' v h => ?_⟩
  · have hself : (2 : Word) + disp 0xFE = 0 := by decide
    rw [target, BitVec.add_assoc, hself, add_zero]
  · have hnext : disp 0x00 = 0 := by decide
    rw [target, hnext, add_zero]
  · have htarget : a + 2 + disp v = a' + 2 + disp v := fmt_relative_inj.mp h
    exact add_right_cancel (add_right_cancel htarget)

/-- Settles O50, digit by digit: the first one is below 16 already. -/
theorem hexTextIsBase16 : Obligations.HexTextIsBase16 := by
  refine ⟨fun v => ?_, fun v => ?_⟩
  · have hfirst : v.toNat / 16 % 16 = v.toNat / 16 := by omega
    simp [hex2, hexDigit_extractLsb', hfirst]
  · have hfirst : v.toNat / 4096 % 16 = v.toNat / 4096 := by omega
    simp [hex4, hexDigit_extractLsb', hfirst]

end Sys2Proof.Proofs
end

section
/-! The meaning of the instruction that the decoder builds, in the terms of the family rules, and what a family rule says
of all the rows of its list at once (R103 to R106). -/

namespace Sys2Proof.Machine

open Sys2Proof.Claims

/-- OPROM's answer for a byte as the family rules name it: the mnemonic's text, the mode and the length. -/
def romEntry (op : Byte) : Option (Text × Mode × Nat) :=
  (lookup op).map fun e => (mnemonicText e.mnemonic, e.mode, e.length)

theorem romEntry_eq_some {op : Byte} {mn : Text} {mode : Mode} {n : Nat} (h : romEntry op = some (mn, mode, n)) :
    ∃ m, lookup op = some ⟨m, mode, n⟩ ∧ mnemonicText m = mn := by
  obtain ⟨⟨m, mode', n'⟩, hlook, heq⟩ := Option.map_eq_some_iff.mp h
  cases heq
  exact ⟨m, hlook, rfl⟩

/-- The model's 2-byte operand is the one that the claims compute in the natural numbers (R44). -/
theorem operand16_eq_littleEndian (lo hi : Byte) : operand16 lo hi = littleEndian lo hi := by
  rw [littleEndian, ← operand16_toNat, BitVec.ofNat_toNat, BitVec.setWidth_eq]

/-- A mode without operand bytes has no operand text, so its instruction is rendered as the bare mnemonic (R143). -/
theorem render_of_operandBytes_zero {mode : Mode} (h : operandBytes mode = 0) (mn : Text) (v : Option Word) (a : Word) :
    render mn mode v a = mn := by
  have hfmt : fmt mode v a = [] := by
    cases mode with
    | implied => rfl
    | accumulator => rfl
    | _ => cases h
  simp [render, hfmt]

section
variable {i : Instr} {op : Byte} {args : List Byte} {mn : Text} {mode : Mode} {n : Nat} {v : Option Word}
  {text : Word → Text}

/-- The decoder takes exactly the bytes that OPROM's length says. -/
theorem lookup_length_of_decode {e : OpcodeEntry} (hdec : decode (op :: args) = .ok (i, []))
    (hlook : lookup op = some e) : e.length = args.length + 1 := by
  obtain ⟨r, hrow, rfl⟩ := lookup_eq_some.mp hlook
  have hone := (row_length hrow).1
  obtain ⟨j, hd, hle, -⟩ | ⟨hd, -⟩ := decode_defined hrow args <;> rw [hd] at hdec
  · simp only [Except.ok.injEq, Prod.mk.injEq, List.drop_eq_nil_iff] at hdec
    rw [OpRow.entry_length]
    omega
  · cases hdec

/-- The instruction decoded from exactly its own bytes does the decode of its OPROM entry. -/
theorem exec_of_decode_lookup {e : OpcodeEntry} (hdec : decode (op :: args) = .ok (i, []))
    (hlook : lookup op = some e) (s : State) : exec i s = emitInstr e op args s := by
  have hlen := lookup_length_of_decode hdec hlook
  obtain ⟨r, hrow, rfl⟩ := lookup_eq_some.mp hlook
  rw [OpRow.entry_length] at hlen
  rw [exec_of_decode hrow hdec, hlen, Nat.add_sub_cancel, List.take_length]

theorem hasEntry_of_decode (hdec : decode (op :: args) = .ok (i, [])) (hrom : romEntry op = some (mn, mode, n)) :
    HasEntry i op (op :: args) mn mode n := by
  obtain ⟨henc, -⟩ := encode_decode hdec
  rw [List.append_nil] at henc
  exact ⟨henc.symm, hrom⟩

/-- Where the instruction fits, its record is emitted at the cursor's address. -/
theorem exec_fits (hdec : decode (op :: args) = .ok (i, [])) (hrom : romEntry op = some (mn, mode, args.length + 1))
    (hval : operandValue mode (op :: args) = v) {s : State} (hfit : s.cur + (args.length + 1) ≤ s.buf.size) :
    exec i s = .next { s with
      cur := s.cur + (args.length + 1)
      out := s.out ++ [{ kind := .instr, address := cursorAddress s, rawBytes := op :: args, mnemonic := mn,
                         mode := mode, operandValue := v, renderedText := render mn mode v (cursorAddress s) }] } := by
  obtain ⟨m, hlook, rfl⟩ := romEntry_eq_some hrom
  subst hval
  rw [exec_of_decode_lookup hdec hlook, emitInstr_fits hfit, addressOf_cur]
  rfl

/-- An instruction of one byte has its family rule's meaning. -/
theorem decodesOneByte_of_decode (hdec : decode [op] = .ok (i, [])) (hrom : romEntry op = some (mn, mode, 1))
    (hzero : operandBytes mode = 0) : DecodesOneByte i op mn mode := by
  have hval : operandValue mode [op] = none := by simp [operandValue, hzero]
  refine ⟨hasEntry_of_decode hdec hrom, fun s hcur => ?_⟩
  rw [exec_fits hdec hrom hval hcur, render_of_operandBytes_zero hzero]
  rfl

/-- An instruction with operand bytes has its family rule's meaning: it fits and is emitted, or it is truncated, with one
outcome for each value of RC. -/
theorem decodes_of_decode (hdec : decode (op :: args) = .ok (i, []))
    (hrom : romEntry op = some (mn, mode, args.length + 1)) (hval : operandValue mode (op :: args) = v)
    (htext : ∀ a, render mn mode v a = text a) : Decodes i op args mn mode v text := by
  obtain ⟨m, hlook, -⟩ := romEntry_eq_some hrom
  have htrunc {s : State} (hpast : s.buf.size < s.cur + (args.length + 1)) :
      exec i s = .next (truncate op (args.length + 1) s) :=
    (exec_of_decode_lookup hdec hlook s).trans (emitInstr_truncated hpast)
  refine ⟨hasEntry_of_decode hdec hrom, fun s _ => ⟨fun hfit => ?_, fun hpast hrc => ?_, fun hpast hrc => ?_⟩⟩
  · rw [exec_fits hdec hrom hval hfit, htext]
  · rw [htrunc hpast, truncate_error (rc_eq_true.mpr hrc)]
    rfl
  · rw [htrunc hpast, truncate_data (rc_eq_false.mpr hrc), emitData_eq]

end

/-- The rule of a family without operand bytes: its rows are what the decoder builds and what OPROM answers. -/
theorem decodesOneByte_of_mem_rows {mode : Mode} {rows : Rows0} {p : Instr × Byte × String}
    (hzero : operandBytes mode = 0)
    (hdec : rows.map (fun p => decode [p.2.1]) = rows.map fun p => .ok (p.1, []))
    (hrom : rows.map (fun p => romEntry p.2.1) = rows.map fun p => some (p.2.2.toList, mode, 1)) (hp : p ∈ rows) :
    DecodesOneByte p.1 p.2.1 p.2.2.toList mode :=
  decodesOneByte_of_decode (List.map_inj_left.mp hdec p hp) (List.map_inj_left.mp hrom p hp) hzero

/-- The rule of a family with one operand byte. -/
theorem decodes_of_mem_rows1 {mode : Mode} {rows : Rows1} {b : Byte} {p : (Byte → Instr) × Byte × String}
    {text : Text → Word → Text} (hone : operandBytes mode = 1)
    (hdec : rows.map (fun p => decode [p.2.1, b]) = rows.map fun p => .ok (p.1 b, []))
    (hrom : rows.map (fun p => romEntry p.2.1) = rows.map fun p => some (p.2.2.toList, mode, 2))
    (htext : ∀ mn a, render mn mode (some (b.setWidth 16)) a = text mn a) (hp : p ∈ rows) :
    Decodes (p.1 b) p.2.1 [b] p.2.2.toList mode (some (b.setWidth 16)) (text p.2.2.toList) :=
  decodes_of_decode (List.map_inj_left.mp hdec p hp) (List.map_inj_left.mp hrom p hp) (operandValue_one hone ..)
    (htext _)

/-- The rule of a family with two operand bytes, low byte first. -/
theorem decodes_of_mem_rows2 {mode : Mode} {rows : Rows2} {lo hi : Byte} {p : (Byte → Byte → Instr) × Byte × String}
    {text : Text → Word → Text} (htwo : operandBytes mode = 2)
    (hdec : rows.map (fun p => decode [p.2.1, lo, hi]) = rows.map fun p => .ok (p.1 lo hi, []))
    (hrom : rows.map (fun p => romEntry p.2.1) = rows.map fun p => some (p.2.2.toList, mode, 3))
    (htext : ∀ mn a, render mn mode (some (littleEndian lo hi)) a = text mn a) (hp : p ∈ rows) :
    Decodes (p.1 lo hi) p.2.1 [lo, hi] p.2.2.toList mode (some (littleEndian lo hi)) (text p.2.2.toList) :=
  decodes_of_decode (List.map_inj_left.mp hdec p hp) (List.map_inj_left.mp hrom p hp)
    (by rw [operandValue_two htwo, operand16_eq_littleEndian]) (htext _)

end Sys2Proof.Machine
end

section
/-! The obligations of 42_load_store_transfer.md. -/

namespace Sys2Proof.Proofs

open Sys2Proof.Machine Sys2Proof.Claims

/-- Settles O5: the decoder builds each row's instruction, OPROM names it as the row does, and FMT gives
its Immediate text. -/
theorem immediateFormsDecode : Obligations.ImmediateFormsDecode := by
  intro ii p hp
  exact decodes_of_mem_rows1 rfl rfl (by decide) (fun mn => render_immediate mn ii) hp

/-- Settles O6: the decoder builds each row's instruction, OPROM names it as the row does, and FMT gives
its ZeroPage text. -/
theorem zeroPageLoadsStoresShiftsDecode : Obligations.ZeroPageLoadsStoresShiftsDecode := by
  intro zz p hp
  exact decodes_of_mem_rows1 rfl rfl (by decide) (fun mn => render_zeroPage mn zz) hp

/-- Settles O8: the decoder builds each row's instruction, OPROM names it as the row does, and FMT gives
its ZeroPageX text. -/
theorem zeroPageXLoadsStoresArithmeticDecode : Obligations.ZeroPageXLoadsStoresArithmeticDecode := by
  intro zz p hp
  exact decodes_of_mem_rows1 rfl rfl (by decide) (fun mn => render_zeroPageX mn zz) hp

/-- Settles O10: the decoder builds each row's instruction, OPROM names it as the row does, and FMT gives
its ZeroPageY text. -/
theorem zeroPageYFormsDecode : Obligations.ZeroPageYFormsDecode := by
  intro zz p hp
  exact decodes_of_mem_rows1 rfl rfl (by decide) (fun mn => render_zeroPageY mn zz) hp

/-- Settles O11: the decoder builds each row's instruction, OPROM names it as the row does, and FMT gives
its Absolute text. -/
theorem absoluteLoadsStoresJumpsDecode : Obligations.AbsoluteLoadsStoresJumpsDecode := by
  intro lo hi p hp
  exact decodes_of_mem_rows2 rfl rfl (by decide) (fun mn => render_absolute mn (littleEndian lo hi)) hp

/-- Settles O14: the decoder builds each row's instruction, OPROM names it as the row does, and FMT gives
its AbsoluteX text. -/
theorem absoluteXLoadsStoresArithmeticDecode : Obligations.AbsoluteXLoadsStoresArithmeticDecode := by
  intro lo hi p hp
  exact decodes_of_mem_rows2 rfl rfl (by decide) (fun mn => render_absoluteX mn (littleEndian lo hi)) hp

/-- Settles O16: the decoder builds each row's instruction, OPROM names it as the row does, and FMT gives
its AbsoluteY text. -/
theorem absoluteYFormsDecode : Obligations.AbsoluteYFormsDecode := by
  intro lo hi p hp
  exact decodes_of_mem_rows2 rfl rfl (by decide) (fun mn => render_absoluteY mn (littleEndian lo hi)) hp

/-- Settles O18: the decoder builds each row's instruction, OPROM names it as the row does, and FMT gives
its IndirectX text. -/
theorem indirectXFormsDecode : Obligations.IndirectXFormsDecode := by
  intro zz p hp
  exact decodes_of_mem_rows1 rfl rfl (by decide) (fun mn => render_indirectX mn zz) hp

/-- Settles O19: the decoder builds each row's instruction, OPROM names it as the row does, and FMT gives
its IndirectY text. -/
theorem indirectYFormsDecode : Obligations.IndirectYFormsDecode := by
  intro zz p hp
  exact decodes_of_mem_rows1 rfl rfl (by decide) (fun mn => render_indirectY mn zz) hp

/-- Settles O1: the decoder builds each row's instruction, OPROM names it as the row does, and Implied has no
operand text. -/
theorem transfersAndStepsOfXYDecode : Obligations.TransfersAndStepsOfXYDecode :=
  fun _ hp => decodesOneByte_of_mem_rows rfl rfl (by decide) hp

end Sys2Proof.Proofs
end

section
/-! The obligations of 43_arith_logic.md. -/

namespace Sys2Proof.Proofs

open Sys2Proof.Machine Sys2Proof.Claims

/-- Settles O7, by the rule of a family with one operand byte: its rows are what the decoder builds and what OPROM
names, and FMT gives the ZeroPage text. -/
theorem zeroPageArithmeticDecodes : Obligations.ZeroPageArithmeticDecodes := by
  intro zz p hp
  exact decodes_of_mem_rows1 rfl rfl (by decide) (fun mn => render_zeroPage mn zz) hp

/-- Settles O12, by the rule of a family with two operand bytes: its rows are what the decoder builds and what OPROM
names, and FMT gives the Absolute text. -/
theorem absoluteArithmeticDecodes : Obligations.AbsoluteArithmeticDecodes := by
  intro lo hi p hp
  exact decodes_of_mem_rows2 rfl rfl (by decide) (fun mn => render_absolute mn (littleEndian lo hi)) hp

end Sys2Proof.Proofs
end

section
/-! The obligations of 44_shift_incdec.md. -/

namespace Sys2Proof.Proofs

open Sys2Proof.Machine Sys2Proof.Claims

/-- Settles O9, by the rule of a family with one operand byte: its rows are what the decoder builds and what OPROM
names, and FMT gives the ZeroPageX text. -/
theorem zeroPageXShiftsDecode : Obligations.ZeroPageXShiftsDecode := by
  intro zz p hp
  exact decodes_of_mem_rows1 rfl rfl (by decide) (fun mn => render_zeroPageX mn zz) hp

/-- Settles O13, by the rule of a family with two operand bytes: its rows are what the decoder builds and what OPROM
names, and FMT gives the Absolute text. -/
theorem absoluteShiftsDecode : Obligations.AbsoluteShiftsDecode := by
  intro lo hi p hp
  exact decodes_of_mem_rows2 rfl rfl (by decide) (fun mn => render_absolute mn (littleEndian lo hi)) hp

/-- Settles O15, by the rule of a family with two operand bytes: its rows are what the decoder builds and what OPROM
names, and FMT gives the AbsoluteX text. -/
theorem absoluteXShiftsDecode : Obligations.AbsoluteXShiftsDecode := by
  intro lo hi p hp
  exact decodes_of_mem_rows2 rfl rfl (by decide) (fun mn => render_absoluteX mn (littleEndian lo hi)) hp

/-- Settles O4, by the rule of a family without operand bytes: its rows are what the decoder builds and what OPROM
names, and Accumulator has no operand text. -/
theorem accumulatorShiftsDecode : Obligations.AccumulatorShiftsDecode :=
  fun _ hp => decodesOneByte_of_mem_rows rfl rfl (by decide) hp

end Sys2Proof.Proofs
end

section
/-! The obligations of 45_control_transfer.md. -/

namespace Sys2Proof.Proofs

open Sys2Proof.Machine Sys2Proof.Claims

/-- Settles O17, by the rule of a family with two operand bytes: its row is what the decoder builds and what OPROM
names, and FMT gives the Indirect text. -/
theorem jumpIndirectDecodes : Obligations.JumpIndirectDecodes := by
  intro lo hi p hp
  exact decodes_of_mem_rows2 rfl rfl (by decide) (fun mn => render_indirect mn (littleEndian lo hi)) hp

/-- A branch's text names the target that the claims compute in the integers (R141). -/
theorem render_relative_branchTarget (mn : Text) (rr : Byte) (a : Word) :
    render mn .relative (some (rr.setWidth 16)) a = mn ++ " $".toList ++ hex4 (branchTarget a rr) := by
  rw [render_relative, target_eq_branchTarget]

/-- Settles O20, by the rule of a family with one operand byte: its rows are what the decoder builds and what OPROM
names, and the text's target is the one computed in the integers. -/
theorem branchesDecode : Obligations.BranchesDecode := by
  intro rr p hp
  exact decodes_of_mem_rows1 rfl rfl (by decide) (fun mn => render_relative_branchTarget mn rr) hp

/-- Settles O2, by the rule of a family without operand bytes: its rows are what the decoder builds and what OPROM
names, and Implied has no operand text. -/
theorem returnsAndBreakDecode : Obligations.ReturnsAndBreakDecode :=
  fun _ hp => decodesOneByte_of_mem_rows rfl rfl (by decide) hp

end Sys2Proof.Proofs
end

section
/-! The obligations of 46_stack_flags_misc.md. -/

namespace Sys2Proof.Proofs

open Sys2Proof.Machine Sys2Proof.Claims

/-- Settles O3, by the rule of a family without operand bytes: its rows are what the decoder builds and what OPROM
names, and Implied has no operand text. -/
theorem stackFlagAndNopInstructionsDecode : Obligations.StackFlagAndNopInstructionsDecode :=
  fun _ hp => decodesOneByte_of_mem_rows rfl rfl (by decide) hp

end Sys2Proof.Proofs
end

section
/-! What NORM does with a text, in the terms of the form that R452 gives, which is written out apart from its test. -/

namespace Sys2Proof.Machine

open Sys2Proof.Claims

theorem normTexts_eq_normMnemonics : normTexts = normMnemonics := by decide

theorem normSuffixes_eq_toList : normSuffixes = ["", ",X", ",Y"].map String.toList := by decide

/-- NORMSET's spellings are three letters long, so a text of the form has its operand at the fourth place. -/
theorem length_of_mem_normMnemonics : ∀ m ∈ normMnemonics, m.length = 3 := by decide

/-- NORM replaces the digits of a text of its form and keeps the suffix (R452). -/
theorem normalize_of_hasNormForm {t m ds sfx : Text} (h : HasNormForm t m ds sfx) :
    Machine.normalize t = m ++ " $????".toList ++ sfx := by
  obtain ⟨hm, hlen, hds, hsfx, rfl⟩ := h
  obtain ⟨m1, m2, m3, rfl⟩ := List.length_eq_three.mp (length_of_mem_normMnemonics m hm)
  obtain ⟨d1, d2, d3, d4, rfl⟩ := List.length_eq_four.mp hlen
  rw [← normTexts_eq_normMnemonics] at hm
  rw [← normSuffixes_eq_toList] at hsfx
  rw [text_wildcard, text_dollar]
  exact normalize_rewrites ⟨hm, rfl, rfl, hds, hsfx⟩

/-- A text that NORM changes is of its form (R452). -/
theorem normalize_eq_self_or_hasNormForm (t : Text) :
    Machine.normalize t = t ∨ ∃ m ds sfx, HasNormForm t m ds sfx := by
  fun_cases normalize t with
  | case1 m1 m2 m3 sp dl d1 d2 d3 d4 sfx htest =>
    obtain ⟨hm, rfl, rfl, hds, hsfx⟩ := (normalize_test ..).mp htest
    rw [normTexts_eq_normMnemonics] at hm
    rw [normSuffixes_eq_toList] at hsfx
    exact .inr ⟨[m1, m2, m3], [d1, d2, d3, d4], sfx, hm, rfl, hds, hsfx, by rw [text_dollar]; rfl⟩
  | case2 => exact .inl rfl
  | case3 => exact .inl rfl

theorem normalize_of_not_hasNormForm {t : Text} (h : ∀ m ds sfx : Text, ¬ HasNormForm t m ds sfx) :
    Machine.normalize t = t :=
  (normalize_eq_self_or_hasNormForm t).resolve_right fun ⟨m, ds, sfx, hform⟩ => h m ds sfx hform

/-- No text of the form holds the wildcard's character. -/
theorem wildcard_not_mem_of_hasNormForm {t m ds sfx : Text} (h : HasNormForm t m ds sfx) : '?' ∉ t := by
  obtain ⟨hm, -, hds, hsfx, rfl⟩ := h
  have hmnemonic : ∀ u ∈ normMnemonics, '?' ∉ u := by decide
  have hsuffix : ∀ u ∈ ["", ",X", ",Y"].map String.toList, '?' ∉ u := by decide
  have hdigits : '?' ∉ ds := fun hmem => absurd (hds _ hmem) (by decide)
  simp [hmnemonic m hm, hdigits, hsuffix sfx hsfx]

theorem wildcard_mem_rewritten (m sfx : Text) : '?' ∈ m ++ " $????".toList ++ sfx := by simp

end Sys2Proof.Machine
end

section
/-! Which rendered texts are of NORM's form: the mnemonics and the modes of the opcode table (R451, R453). -/

namespace Sys2Proof.Machine

open Sys2Proof.Claims

theorem mnemonicText_injective : Function.Injective mnemonicText := by
  have hnodup : (Mnemonic.all.map mnemonicText).Nodup := by decide
  have hall (m : Mnemonic) : m ∈ Mnemonic.all := List.mem_of_getElem? (mnemonic_of_index m)
  exact fun m m' h => List.inj_on_of_nodup_map hnodup (hall m) (hall m') h

theorem mnemonicText_length (m : Mnemonic) : (mnemonicText m).length = 3 := by
  obtain ⟨a, b, c, h, -⟩ := mnemonicText_letters m
  rw [h, List.length_cons, List.length_cons, List.length_singleton]

theorem mem_normMnemonics {m : Text} : m ∈ normMnemonics ↔ ∃ mn ∈ normSet, mnemonicText mn = m := by
  rw [← normTexts_eq_normMnemonics, normTexts, List.mem_map]

theorem mnemonicText_mem_normMnemonics {mn : Mnemonic} : mnemonicText mn ∈ normMnemonics ↔ mn ∈ normSet := by
  rw [← normTexts_eq_normMnemonics, normTexts, List.mem_map_of_injective mnemonicText_injective]

/-- The table's mnemonics with a mode that NORM rewrites are in NORMSET, and those of the branches are not (R451,
R453), checked list by list of the grid. -/
theorem opTable_normSet : ∀ r ∈ opTable,
    ((normSuffix r.mode).isSome = true → r.mnemonic ∈ normSet) ∧ (r.mode = .relative → r.mnemonic ∉ normSet) := by
  have hgrid : ∀ l ∈ opGrid, ∀ r ∈ l, ((normSuffix r.mode).isSome = true → r.mnemonic ∈ normSet) ∧
      (r.mode = .relative → r.mnemonic ∉ normSet) := by decide
  intro r hr
  obtain ⟨l, hl, hrl⟩ := List.mem_flatten.mp hr
  exact hgrid l hl r hrl

theorem lookup_normSet {b : Byte} {e : OpcodeEntry} (h : lookup b = some e) :
    ((normSuffix e.mode).isSome = true → e.mnemonic ∈ normSet) ∧ (e.mode = .relative → e.mnemonic ∉ normSet) := by
  obtain ⟨r, hrow, rfl⟩ := lookup_eq_some.mp h
  exact opTable_normSet r (rowOf_some hrow).1

/-- The modes that NORM rewrites, each with its suffix (R452, R453). -/
theorem normSuffix_eq_some {mode : Mode} {sfx : Text} : normSuffix mode = some sfx ↔
    mode = .absolute ∧ sfx = [] ∨ mode = .absoluteX ∧ sfx = ",X".toList ∨ mode = .absoluteY ∧ sfx = ",Y".toList := by
  cases mode <;> simp [normSuffix, eq_comm]

theorem normSuffix_inj {mode mode' : Mode} {sfx : Text} (h : normSuffix mode = some sfx)
    (h' : normSuffix mode' = some sfx) : mode = mode' := by
  obtain ⟨rfl, rfl⟩ | ⟨rfl, rfl⟩ | ⟨rfl, rfl⟩ := normSuffix_eq_some.mp h <;>
    exact .symm (by simpa [text_commaX, text_commaY] using normSuffix_eq_some.mp h')

/-- A mode that NORM rewrites has a two-byte operand, so its record has an operand value (R44, R64). -/
theorem operandValue_of_normSuffix {mode : Mode} {sfx : Text} (h : normSuffix mode = some sfx) {raw : List Byte}
    (hlen : raw.length = 1 + operandBytes mode) : ∃ v, operandValue mode raw = some v := by
  have htwo : operandBytes mode = 2 := by
    obtain ⟨rfl, -⟩ | ⟨rfl, -⟩ | ⟨rfl, -⟩ := normSuffix_eq_some.mp h <;> rfl
  obtain ⟨op, lo, hi, rfl⟩ := List.length_eq_three.mp (hlen.trans (by rw [htwo]))
  exact ⟨_, operandValue_two htwo op lo hi⟩

/-- A rewritten mode's text is the four digits of the operand and the suffix (R136, R143). -/
theorem render_of_normSuffix {mode : Mode} {sfx : Text} (h : normSuffix mode = some sfx) (mn : Text) (v a : Word) :
    render mn mode (some v) a = mn ++ " $".toList ++ hex4 v ++ sfx := by
  obtain ⟨rfl, rfl⟩ | ⟨rfl, rfl⟩ | ⟨rfl, rfl⟩ := normSuffix_eq_some.mp h
  · rw [render_absolute, List.append_nil]
  · exact render_absoluteX mn v a
  · exact render_absoluteY mn v a

theorem hex4_digits16 (v : Word) : ∀ d ∈ hex4 v, d ∈ digits16 := by
  simp only [hex4, List.forall_mem_cons]
  exact ⟨hexDigit_mem _, hexDigit_mem _, hexDigit_mem _, hexDigit_mem _, List.forall_mem_nil _⟩

theorem hasNormForm_render {mn : Mnemonic} (hmn : mn ∈ normSet) {mode : Mode} {sfx : Text}
    (h : normSuffix mode = some sfx) (v a : Word) :
    HasNormForm (render (mnemonicText mn) mode (some v) a) (mnemonicText mn) (hex4 v) sfx := by
  have hsfx : sfx ∈ ["", ",X", ",Y"].map String.toList := by
    obtain ⟨-, rfl⟩ | ⟨-, rfl⟩ | ⟨-, rfl⟩ := normSuffix_eq_some.mp h <;> decide
  exact ⟨mnemonicText_mem_normMnemonics.mpr hmn, rfl, hex4_digits16 v, hsfx, render_of_normSuffix h _ v a⟩

/-- The form is found in a rendered text at its mnemonic and its operand text. -/
theorem fmt_of_hasNormForm_render {mn : Mnemonic} {mode : Mode} {v : Option Word} {a : Word} {m ds sfx : Text}
    (h : HasNormForm (render (mnemonicText mn) mode v a) m ds sfx) :
    mnemonicText mn = m ∧ fmt mode v a = "$".toList ++ ds ++ sfx := by
  obtain ⟨hm, -, -, -, htext⟩ := h
  have hlen : (mnemonicText mn).length = m.length := by rw [mnemonicText_length, length_of_mem_normMnemonics m hm]
  simp only [render] at htext
  split at htext
  · have htotal := congrArg List.length htext
    simp [hlen] at htotal
  · simp only [List.append_assoc] at htext
    obtain ⟨hmn, hrest⟩ := List.append_inj htext hlen
    exact ⟨hmn, by simpa using hrest⟩

/-- Only in Relative and the modes that NORM rewrites does FMT print a `$` and four digits first (R453): the other modes
print no operand, another character first, or two digits. -/
theorem mode_of_fmt_eq_address {mode : Mode} {v : Option Word} {a : Word} {ds sfx : Text} (hlen : ds.length = 4)
    (hds : ∀ d ∈ ds, d ∈ digits16) (h : fmt mode v a = "$".toList ++ ds ++ sfx) :
    (normSuffix mode).isSome = true ∨ mode = .relative := by
  have hcomma : ',' ∉ ds := fun hmem => absurd (hds _ hmem) (by decide)
  obtain ⟨d1, d2, d3, d4, rfl⟩ := List.length_eq_four.mp hlen
  cases mode with
  | absolute => exact .inl rfl
  | absoluteX => exact .inl rfl
  | absoluteY => exact .inl rfl
  | relative => exact .inr rfl
  | implied | accumulator => cases h
  | immediate | indirect | indirectX | indirectY => cases v <;> simp [fmt] at h
  | zeroPage => cases v <;> simp [fmt, hexLow, hex2] at h
  | zeroPageX | zeroPageY =>
    cases v with
    | none => simp [fmt] at h
    | some v =>
      obtain ⟨-, -, rfl, -⟩ : _ ∧ _ ∧ ',' = d3 ∧ _ := by simpa [fmt, hexLow, hex2] using h
      exact absurd (by simp) hcomma

theorem not_hasNormForm_render {b : Byte} {e : OpcodeEntry} (hlook : lookup b = some e) (h : normSuffix e.mode = none)
    (v : Option Word) (a : Word) (m ds sfx : Text) :
    ¬ HasNormForm (render (mnemonicText e.mnemonic) e.mode v a) m ds sfx := by
  intro hform
  obtain ⟨rfl, hfmt⟩ := fmt_of_hasNormForm_render hform
  obtain ⟨hm, hlen, hds, -, -⟩ := hform
  obtain hsome | hrel := mode_of_fmt_eq_address hlen hds hfmt
  · rw [h] at hsome
    cases hsome
  · exact (lookup_normSet hlook).2 hrel (mnemonicText_mem_normMnemonics.mp hm)

theorem not_hasNormForm_dot (u m ds sfx : Text) : ¬ HasNormForm ('.' :: u) m ds sfx := by
  rintro ⟨hm, -, -, -, htext⟩
  obtain ⟨mn, -, rfl⟩ := mem_normMnemonics.mp hm
  simp only [List.append_assoc] at htext
  exact ne_dot_cons_of_mnemonicText_prefix ⟨_, htext.symm⟩ u rfl

end Sys2Proof.Machine
end

section
/-! What NORM makes of the records' texts (R453, R456). -/

namespace Sys2Proof.Machine

open Sys2Proof.Claims

section
variable {b : Byte} {e : OpcodeEntry} {raw : List Byte} {a : Word}

theorem normalize_instrRecord_of_normSuffix (hlook : lookup b = some e) (hlen : raw.length = e.length) {sfx : Text}
    (h : normSuffix e.mode = some sfx) :
    Machine.normalize (instrRecord e raw a).renderedText = mnemonicText e.mnemonic ++ " $????".toList ++ sfx := by
  obtain ⟨v, hv⟩ := operandValue_of_normSuffix h (hlen.trans (lookup_length hlook))
  have hmn : e.mnemonic ∈ normSet := (lookup_normSet hlook).1 (by rw [h, Option.isSome_some])
  rw [instrRecord, hv]
  exact normalize_of_hasNormForm (hasNormForm_render hmn h v a)

theorem normalize_instrRecord_of_normSuffix_none (hlook : lookup b = some e) (h : normSuffix e.mode = none) :
    Machine.normalize (instrRecord e raw a).renderedText = (instrRecord e raw a).renderedText :=
  normalize_of_not_hasNormForm (not_hasNormForm_render hlook h (operandValue e.mode raw) a)

end

/-- No digit of a rendered number is the wildcard's character. -/
theorem hexDigit_ne_wildcard (d : BitVec 4) : '?' ≠ hexDigit d := fun h => absurd (h ▸ hexDigit_mem d) (by decide)

/-- FMT prints no wildcard. -/
theorem wildcard_not_mem_fmt (mode : Mode) (v : Option Word) (a : Word) : '?' ∉ fmt mode v a := by
  cases v with
  | none => cases mode <;> simp [fmt]
  | some v => cases mode <;> simp [fmt, hexLow, hex2, hex4, hexDigit_ne_wildcard]

theorem wildcard_not_mem_mnemonicText (m : Mnemonic) : '?' ∉ mnemonicText m := by cases m <;> decide

theorem wildcard_not_mem_instrRecord (e : OpcodeEntry) (raw : List Byte) (a : Word) :
    '?' ∉ (instrRecord e raw a).renderedText := by
  have hmn := wildcard_not_mem_mnemonicText e.mnemonic
  have hfmt := wildcard_not_mem_fmt e.mode (operandValue e.mode raw) a
  simp only [instrRecord, render]
  split
  · exact hmn
  · simp [hmn, hfmt]

theorem instrRecord_ne_rewritten (e : OpcodeEntry) (raw : List Byte) (a : Word) (m sfx : Text) :
    (instrRecord e raw a).renderedText ≠ m ++ " $????".toList ++ sfx :=
  fun h => wildcard_not_mem_instrRecord e raw a (h ▸ wildcard_mem_rewritten m sfx)

/-- A rewritten text names its mnemonic and its suffix. -/
theorem rewritten_inj {m m' : Mnemonic} {sfx sfx' : Text}
    (h : mnemonicText m ++ " $????".toList ++ sfx = mnemonicText m' ++ " $????".toList ++ sfx') :
    m = m' ∧ sfx = sfx' := by
  simp only [List.append_assoc] at h
  obtain ⟨hmn, hrest⟩ := List.append_inj h ((mnemonicText_length m).trans (mnemonicText_length m').symm)
  exact ⟨mnemonicText_injective hmn, List.append_cancel_left hrest⟩

theorem equalAfterNorm_iff {t u : Text} : equalAfterNorm t u = true ↔ Machine.normalize t = Machine.normalize u :=
  beq_iff_eq

end Sys2Proof.Machine
end

section
/-! The obligations of 47_normalization.md. -/

namespace Sys2Proof.Proofs

open Sys2Proof.Machine Sys2Proof.Claims

/-- Settles O52: the text that NORM writes holds the wildcard, which no text of its form does. -/
theorem normalizeIsIdempotent : Obligations.NormalizeIsIdempotent := by
  intro t
  obtain hsame | ⟨m, ds, sfx, hform⟩ := normalize_eq_self_or_hasNormForm t
  · rw [hsame, hsame]
  · rw [normalize_of_hasNormForm hform]
    exact normalize_of_not_hasNormForm fun _ _ _ hagain =>
      wildcard_not_mem_of_hasNormForm hagain (wildcard_mem_rewritten m sfx)

/-- Settles O53, from the two things that NORM can do with a text. -/
theorem normalizeRewritesItsForm : Obligations.NormalizeRewritesItsForm :=
  ⟨fun _ _ _ _ h => normalize_of_hasNormForm h, fun _ h => normalize_of_not_hasNormForm h⟩

/-- Settles O54: the texts of the rewritten modes are of NORM's form, those of the other modes and of data are not. -/
theorem normalizeOfRecordText : Obligations.NormalizeOfRecordText := by
  refine ⟨fun b e raw a hlook hlen => ?_, fun b a => normalize_of_not_hasNormForm (not_hasNormForm_dot _)⟩
  split
  next sfx h => exact normalize_instrRecord_of_normSuffix hlook hlen h
  next h => exact normalize_instrRecord_of_normSuffix_none hlook h

/-- Settles O55, by whether NORM rewrites each of the two texts. -/
theorem equalAfterNormIffSameUpToAddress : Obligations.EqualAfterNormIffSameUpToAddress := by
  intro b b' e e' raw raw' a a' hlook hlook' hlen hlen'
  rw [equalAfterNorm_iff]
  constructor
  · intro heq
    cases hs : normSuffix e.mode with
    | none =>
      rw [normalize_instrRecord_of_normSuffix_none hlook hs] at heq
      cases hs' : normSuffix e'.mode with
      | none =>
        rw [normalize_instrRecord_of_normSuffix_none hlook' hs'] at heq
        exact .inl heq
      | some sfx' =>
        rw [normalize_instrRecord_of_normSuffix hlook' hlen' hs'] at heq
        exact absurd heq (instrRecord_ne_rewritten e raw a _ sfx')
    | some sfx =>
      rw [normalize_instrRecord_of_normSuffix hlook hlen hs] at heq
      cases hs' : normSuffix e'.mode with
      | none =>
        rw [normalize_instrRecord_of_normSuffix_none hlook' hs'] at heq
        exact absurd heq.symm (instrRecord_ne_rewritten e' raw' a' _ sfx)
      | some sfx' =>
        rw [normalize_instrRecord_of_normSuffix hlook' hlen' hs'] at heq
        obtain ⟨hmn, rfl⟩ := rewritten_inj heq
        exact .inr ⟨hmn, normSuffix_inj hs hs', rfl⟩
  · rintro (htext | ⟨hmn, hmode, hsome⟩)
    · rw [htext]
    · obtain ⟨sfx, hs⟩ := Option.isSome_iff_exists.mp hsome
      rw [normalize_instrRecord_of_normSuffix hlook hlen hs,
        normalize_instrRecord_of_normSuffix hlook' hlen' (hmode ▸ hs), hmn]

end Sys2Proof.Proofs
end

section
/-! A STEP below END in the terms of OPROM's answer for the byte at the cursor (R105, R106, R108, R506). -/

namespace Sys2Proof.Machine

open Sys2Proof.Claims

section
variable {s : State} {b : Byte} {e : OpcodeEntry} (hr : s.status = .running) (hlt : s.cur < s.endOff)
  (hb : s.buf.read s.cur = some b)
include hr hlt hb

/-- An undefined byte is emitted as data, and the run goes on (R105, R502). -/
theorem stepRun_of_lookup_none (hlook : lookup b = none) :
    stepRun s = .next { s with cur := s.cur + 1, out := s.out ++ [byteRecord b (cursorAddress s)] } := by
  rw [stepRun_data hr hlt hb (lookup_eq_none.mp hlook), emitData_eq]

/-- With `RC = 1` a truncated opcode ends the run (R503). -/
theorem stepRun_of_truncated_rc_one (hlook : lookup b = some e) (hpast : s.buf.size < s.cur + e.length)
    (hrc : s.ctrl = 1) :
    stepRun s = .next { s with
      status := .truncated, errInfo := .truncated s.cur b e.length (s.buf.size - s.cur) } := by
  obtain ⟨r, hrow, rfl⟩ := lookup_eq_some.mp hlook
  rw [stepRun_truncated hr hlt hb hrow hpast, truncate_error (rc_eq_true.mpr hrc)]
  rfl

/-- With `RC = 0` a truncated opcode is emitted as data (R108). -/
theorem stepRun_of_truncated_rc_zero (hlook : lookup b = some e) (hpast : s.buf.size < s.cur + e.length)
    (hrc : s.ctrl = 0) :
    stepRun s = .next { s with cur := s.cur + 1, out := s.out ++ [byteRecord b (cursorAddress s)] } := by
  obtain ⟨r, hrow, rfl⟩ := lookup_eq_some.mp hlook
  rw [stepRun_truncated hr hlt hb hrow hpast, truncate_data (rc_eq_false.mpr hrc), emitData_eq]

/-- An instruction that fits in the buffer is emitted whole (R106). -/
theorem stepRun_of_lookup_fits (hlook : lookup b = some e) (hfit : s.cur + e.length ≤ s.buf.size) :
    stepRun s = .next { s with
      cur := s.cur + e.length
      out := s.out ++ [instrRecord e (s.buf.readBytes s.cur e.length) (cursorAddress s)] } := by
  obtain ⟨r, hrow, rfl⟩ := lookup_eq_some.mp hlook
  rw [stepRun_fits hr hlt hb hrow hfit, addressOf_cur]
  rfl

end

end Sys2Proof.Machine
end

section
/-! A run that ended at its END, resumed with a later END, is the run that had the later END from the start (R57, R556). -/

namespace Sys2Proof.Machine

open Sys2Proof.Claims

/-- The run of `s` in progress, with END at `e`. -/
def State.resume (e : Nat) (s : State) : State := { s with status := .running, endOff := e }

@[simp] theorem State.resume_status (e : Nat) (s : State) : (s.resume e).status = .running := rfl
@[simp] theorem State.resume_cur (e : Nat) (s : State) : (s.resume e).cur = s.cur := rfl
@[simp] theorem State.resume_endOff (e : Nat) (s : State) : (s.resume e).endOff = e := rfl
@[simp] theorem State.resume_buf (e : Nat) (s : State) : (s.resume e).buf = s.buf := rfl

/-- The end of a run leaves STATUS and END alone to be put back. -/
@[simp] theorem State.finish_resume (e : Nat) (s : State) : s.finish.resume e = s.resume e := rfl

/-- A STEP that goes on does the same under any END that it stands below. -/
theorem stepRun_resume {s t : State} {e : Nat} (h : stepRun s = .next t) (ht : t.status = .running)
    (he : s.cur < e) : stepRun (s.resume e) = .next (t.resume e) := by
  obtain ⟨-, ⟨-, rfl⟩ | ⟨-, b, hb, hcases⟩⟩ := stepRun_cases h
  · cases ht
  obtain ⟨hrow, rfl⟩ | ⟨r, hrow, ⟨hfit, rfl⟩ | ⟨hpast, rfl⟩⟩ := hcases
  · exact stepRun_data (s := s.resume e) rfl he hb hrow
  · exact stepRun_fits (s := s.resume e) rfl he hb hrow hfit
  · have hstep := stepRun_truncated (s := s.resume e) rfl he hb hrow hpast
    have hside : (s.resume e).rc = s.rc := rfl
    cases hrc : s.rc with
    | false =>
      rw [hstep, truncate_data hrc, truncate_data (hside.trans hrc)]
      rfl
    | true =>
      rw [truncate_error hrc] at ht
      cases ht

/-- Beyond the STEPs that a run needs it does not matter how many are allowed (R110). -/
theorem runLoop_fuel_irrelevant (n : Nat) : ∀ (m : Nat) (s : State), s.status = .running → s.endOff ≤ s.buf.size →
    s.endOff - s.cur < n → s.endOff - s.cur < m → runLoop n s = runLoop m s := by
  induction n with
  | zero => intro m s _ _ hn; omega
  | succ n ih =>
    intro m s hr he hn hm
    obtain ⟨m, rfl⟩ : ∃ k, m = k + 1 := ⟨m - 1, by omega⟩
    obtain ⟨-, hs⟩ | ⟨hlt, r, k, hk, -, hs, -⟩ | ⟨-, -, info, hs⟩ := stepRun_running hr he <;>
      rw [runLoop_next hr hs, runLoop_next hr hs]
    · rw [runLoop_not_running (by simp), runLoop_not_running (by simp)]
    · exact ih m _ hr he (by simp; omega) (by simp; omega)
    · rw [runLoop_not_running (by simp), runLoop_not_running (by simp)]

/-- The run with the later END passes through the state in which the shorter run ended: by induction on the shorter
run's STEPs, each of which the longer run does too. -/
theorem runLoop_resume {e : Nat} (n : Nat) : ∀ (m k : Nat) (s : State), s.status = .running → s.endOff ≤ e →
    e ≤ s.buf.size → s.endOff - s.cur < n → e - s.cur < m → (runLoop n s).status = .done →
    e - (runLoop n s).cur < k → runLoop m (s.resume e) = runLoop k ((runLoop n s).resume e) := by
  induction n with
  | zero => intro m k s _ _ _ hn; omega
  | succ n ih =>
    intro m k s hr hend he hn hm
    obtain ⟨-, hs⟩ | ⟨hlt, j, r, hj, -, hs, -⟩ | ⟨-, -, info, hs⟩ := stepRun_running hr (hend.trans he) <;>
      rw [runLoop_next hr hs]
    · rw [runLoop_not_running (by simp), State.finish_resume]
      exact fun _ hk => runLoop_fuel_irrelevant m k _ rfl he hm hk
    · obtain ⟨m, rfl⟩ : ∃ i, m = i + 1 := ⟨m - 1, by omega⟩
      rw [runLoop_next rfl (stepRun_resume hs hr (hlt.trans_le hend))]
      exact ih m k _ hr hend he (by simp; omega) (by simp; omega)
    · rw [runLoop_not_running (by simp)]
      exact nofun

/-- A run that ends normally changes STATUS, CUR and the output stream alone. -/
theorem runLoop_done_frame {n : Nat} {s : State} (hr : s.status = .running) (he : s.endOff ≤ s.buf.size)
    (hn : s.endOff - s.cur < n) (hdone : (runLoop n s).status = .done) :
    runLoop n s = { s with status := .done, cur := (runLoop n s).cur, out := (runLoop n s).out } :=
  runLoop_induction (P := fun s t => t.status = .done → t = { s with status := .done, cur := t.cur, out := t.out })
    (fun _ _ _ => rfl) (fun _ _ _ _ => nofun) (fun _ _ _ _ _ _ h => h) n s hr he hn hdone

section
variable {s : State} {st mid base : Nat} {rc : Option Bool} (h : ValidRange s st mid)
  (hdone : (decodeRange st mid base rc s).status = .done)
include h hdone

/-- What a run over a valid range that ends normally leaves: START's values, but for STATUS, CUR and the output stream. -/
theorem decodeRange_done_frame : decodeRange st mid base rc s =
    { s.begin st mid base (rc.getD Config.defaultRequireComplete) with
      status := .done, cur := (decodeRange st mid base rc s).cur, out := (decodeRange st mid base rc s).out } := by
  rw [decodeRange_begin h.1 h.2] at hdone ⊢
  exact runLoop_done_frame rfl (Nat.min_le_right _ _) (Nat.lt_succ_self _) hdone

theorem decodeRange_done_buf : (decodeRange st mid base rc s).buf = s.buf := by
  rw [decodeRange_done_frame h hdone]
  rfl

/-- START at the final cursor of such a run, with the run's base and RC, resumes the run. -/
theorem decodeRange_done_begin (en : Nat) :
    (decodeRange st mid base rc s).begin (decodeRange st mid base rc s).cur en base
        (rc.getD Config.defaultRequireComplete) =
      (decodeRange st mid base rc s).resume (min en s.buf.size) := by
  rw [decodeRange_done_frame h hdone]
  rfl

end

end Sys2Proof.Machine
end

section
/-! The obligations of 60_exceptions.md. -/

namespace Sys2Proof.Proofs

open Sys2Proof.Machine Sys2Proof.Claims

/-- Settles O21: OPROM has no entry for an undefined byte. -/
theorem unmappedByteBecomesDataRecord : Obligations.UnmappedByteBecomesDataRecord := by
  intro s b hr hlt hb hmem
  have hlook := lookup_eq_none.mpr (rowOf_undefined hmem)
  exact ⟨hlook, stepRun_of_lookup_none hr hlt hb hlook⟩

/-- Settles O34, one case of STEP for each outcome. -/
theorem stepChecksInOrder : Obligations.StepChecksInOrder := by
  intro s hr
  refine ⟨stepRun_finish hr, fun b hlt hb => ⟨stepRun_of_lookup_none hr hlt hb, fun e hlook => ?_⟩⟩
  exact ⟨stepRun_of_truncated_rc_one hr hlt hb hlook, stepRun_of_truncated_rc_zero hr hlt hb hlook,
    stepRun_of_lookup_fits hr hlt hb hlook⟩

/-- Settles O43: the truncation outcome for each RC; the error leaves RUNNING. -/
theorem truncationIsPrecise : Obligations.TruncationIsPrecise := by
  intro s b e hr hlt hb hlook hpast
  exact ⟨fun hrc => ⟨_, stepRun_of_truncated_rc_one hr hlt hb hlook hpast hrc, rfl, stepRun_not_running nofun⟩,
    stepRun_of_truncated_rc_zero hr hlt hb hlook hpast⟩

/-- Settles O46: the invariant keeps END inside the buffer, where each case of STEP answers a next state. -/
theorem runningMachineAlwaysSteps : Obligations.RunningMachineAlwaysSteps := by
  rintro s ⟨-, hrun, -⟩ ⟨hi, hr⟩
  obtain ⟨-, -, hend⟩ := hrun hr
  rw [step_of_inbox_nil hi]
  obtain ⟨-, hs⟩ | ⟨-, k, r, -, -, hs, -⟩ | ⟨-, -, info, hs⟩ := stepRun_running hr hend
  · exact ⟨_, hs, .inr (.inl rfl)⟩
  · exact ⟨_, hs, .inl hr⟩
  · exact ⟨_, hs, .inr (.inr rfl)⟩

end Sys2Proof.Proofs
end

section
/-! The obligations of 70_reset_and_hazards.md. -/

namespace Sys2Proof.Proofs

open Sys2Proof.Machine Sys2Proof.Claims

/-- Settles O47: the second START resumes the first run, and the joined run passes through the state it resumes from. -/
theorem adjacentRunsCompose : Obligations.AdjacentRunsCompose := by
  intro s st mid en base rc h hmid hdone hcur hle
  have hbuf : (decodeRange st mid base rc s).buf = s.buf := decodeRange_done_buf h hdone
  have hresume := decodeRange_done_begin h hdone en
  rw [decodeRange_begin (s := decodeRange st mid base rc s) (hbuf ▸ hcur) hle, hresume, hbuf,
    decodeRange_begin h.1 (h.2.trans hmid)]
  rw [decodeRange_begin h.1 h.2] at hdone ⊢
  exact (runLoop_resume _ _ _ _ rfl (min_le_min_right _ hmid) (Nat.min_le_right _ _) (Nat.lt_succ_self _)
    (Nat.lt_succ_self _) hdone (Nat.lt_succ_self _)).symm

/-- Settles O30: nothing is loaded, emitted or in progress. -/
theorem resetMeetsInvariant : Obligations.ResetMeetsInvariant :=
  ⟨rfl, nofun, fun _ => rfl, by simp [State.reset], rfl, nofun⟩

/-- Settles O31: after reset no START has written the registers of a run. -/
theorem resetClearsTheBlock : Obligations.ResetClearsTheBlock :=
  fun _ => ⟨rfl, rfl, fun _ hr => heldValue_not_written rfl (ofRun_eq_true.mpr hr), rfl, rfl⟩

end Sys2Proof.Proofs
end
